-- ==== Sys2Proof/Word.lean ====
section
/-! DEFINITION. The words of the machine: bytes and 16-bit addresses (00_scope.md R10, R6: XLEN 8, PCLEN 16). -/
namespace Sys2Proof

/-- A byte, 8 bits, bit 0 the least significant (R10). -/
abbrev Byte := BitVec 8

/-- A 16-bit value: the program counter and every address (R6, R60). -/
abbrev Addr := BitVec 16

end Sys2Proof
end

