-- ==== Sys2Proof/Machine/Bits.lean ====
section
/-! DEFINITION. Bit fields, concatenation and sign extension, as 00_scope.md R10 writes them. -/
namespace Sys2Proof.Machine

/-- `hi8(w) = w[15:8]` (R10); the page number of an address (20_memory.md R61). -/
def hi8 (w : Addr) : Byte := w.extractLsb' 8 8

/-- `lo8(w) = w[7:0]` (R10); the offset of an address in its page (R61). -/
def lo8 (w : Addr) : Byte := w.setWidth 8

/-- `hi :: lo` (R10). -/
def cat (hi lo : Byte) : Addr := hi ++ lo

/-- `zext_16(b)` (R10). -/
def zext (b : Byte) : Addr := b.setWidth 16

/-- `sext_16(b)` as an offset modulo 65536 (R10, R103). -/
def sext (b : Byte) : Addr := b.signExtend 16

/-- `b` with bit `i` set to `v` and every other bit unchanged. -/
def setBit (b : Byte) (i : Nat) (v : Bool) : Byte :=
  if v then b ||| (1#8 <<< i) else b &&& ~~~(1#8 <<< i)

end Sys2Proof.Machine
end

