-- ==== Sys2Proof/Syntax.lean ====
section
/-! DEFINITION. The instruction set as syntax (30_encoding.md R100 to R110): the 56 mnemonics, the twelve addressing
modes, the six execution classes, the columns of an opcode-table row, and one constructor of `Instr` for each of the
151 rows of spec/opcode_table.json. -/
namespace Sys2Proof

/-- The mnemonic column of `OPTABLE` (R110); "diagnostics only" (R114). -/
inductive Mnemonic where
  | lda | ldx | ldy | sta | stx | sty | tax | tay | txa | tya | tsx | txs | adc | sbc
  | and | ora | eor | cmp | cpx | cpy | bit | inc | dec | inx | iny | dex | dey | asl
  | lsr | rol | ror | clc | sec | cli | sei | clv | cld | sed | pha | php | pla | plp
  | nop | jmp | jsr | rts | bpl | bmi | bvc | bvs | bcc | bcs | bne | beq | brk | rti
  deriving DecidableEq, Repr

/-- The addressing-mode categories (R104). -/
inductive Mode where
  | imp | imm | zp | zpx | zpy | abs | abx | aby | ind | izx | izy | rel
  deriving DecidableEq, Repr

/-- The execution templates of the Dispatch Engine, grouped in six classes (40_dispatch_addressing.md R131). -/
inductive OpClass where
  | read | store | rmw | implied | jump | branch
  deriving DecidableEq, Repr

/-- One row of `OPTABLE` (R110). -/
structure OpRow where
  mnemonic : Mnemonic
  opcode : Byte
  mode : Mode
  /-- Instruction length in bytes (R100, R102). -/
  length : Nat
  /-- Base cycle cost (R366). -/
  cycles : Nat
  /-- Page-penalty eligibility (R113). -/
  pagePenalty : Bool
  cls : OpClass
  deriving DecidableEq, Repr

/-- An operand as the instruction stream gives it, with its addressing mode (R103, R104). -/
inductive Operand where
  | imp
  | imm (v : Byte)
  | zp (z : Byte)
  | zpx (z : Byte)
  | zpy (z : Byte)
  | abs (w : Addr)
  | abx (w : Addr)
  | aby (w : Addr)
  | ind (w : Addr)
  | izx (z : Byte)
  | izy (z : Byte)
  | rel (off : Byte)
  deriving DecidableEq, Repr

/-- The instructions: one constructor per row of spec/opcode_table.json, its operand as R103 assembles it
(`v` imm8, `z` zp8, `w` abs16, `off` rel8). -/
inductive Instr where
  /-- `LDA #$nn`, opcode 0xA9 (R170). -/
  | ldaImm (v : Byte)
  /-- `LDA $nn`, opcode 0xA5 (R170). -/
  | ldaZp (z : Byte)
  /-- `LDA $nn,X`, opcode 0xB5 (R170). -/
  | ldaZpx (z : Byte)
  /-- `LDA $nnnn`, opcode 0xAD (R170). -/
  | ldaAbs (w : Addr)
  /-- `LDA $nnnn,X`, opcode 0xBD (R170). -/
  | ldaAbx (w : Addr)
  /-- `LDA $nnnn,Y`, opcode 0xB9 (R170). -/
  | ldaAby (w : Addr)
  /-- `LDA ($nn,X)`, opcode 0xA1 (R170). -/
  | ldaIzx (z : Byte)
  /-- `LDA ($nn),Y`, opcode 0xB1 (R170). -/
  | ldaIzy (z : Byte)
  /-- `LDX #$nn`, opcode 0xA2 (R171). -/
  | ldxImm (v : Byte)
  /-- `LDX $nn`, opcode 0xA6 (R171). -/
  | ldxZp (z : Byte)
  /-- `LDX $nn,Y`, opcode 0xB6 (R171). -/
  | ldxZpy (z : Byte)
  /-- `LDX $nnnn`, opcode 0xAE (R171). -/
  | ldxAbs (w : Addr)
  /-- `LDX $nnnn,Y`, opcode 0xBE (R171). -/
  | ldxAby (w : Addr)
  /-- `LDY #$nn`, opcode 0xA0 (R172). -/
  | ldyImm (v : Byte)
  /-- `LDY $nn`, opcode 0xA4 (R172). -/
  | ldyZp (z : Byte)
  /-- `LDY $nn,X`, opcode 0xB4 (R172). -/
  | ldyZpx (z : Byte)
  /-- `LDY $nnnn`, opcode 0xAC (R172). -/
  | ldyAbs (w : Addr)
  /-- `LDY $nnnn,X`, opcode 0xBC (R172). -/
  | ldyAbx (w : Addr)
  /-- `STA $nn`, opcode 0x85 (R173). -/
  | staZp (z : Byte)
  /-- `STA $nn,X`, opcode 0x95 (R173). -/
  | staZpx (z : Byte)
  /-- `STA $nnnn`, opcode 0x8D (R173). -/
  | staAbs (w : Addr)
  /-- `STA $nnnn,X`, opcode 0x9D (R173). -/
  | staAbx (w : Addr)
  /-- `STA $nnnn,Y`, opcode 0x99 (R173). -/
  | staAby (w : Addr)
  /-- `STA ($nn,X)`, opcode 0x81 (R173). -/
  | staIzx (z : Byte)
  /-- `STA ($nn),Y`, opcode 0x91 (R173). -/
  | staIzy (z : Byte)
  /-- `STX $nn`, opcode 0x86 (R174). -/
  | stxZp (z : Byte)
  /-- `STX $nn,Y`, opcode 0x96 (R174). -/
  | stxZpy (z : Byte)
  /-- `STX $nnnn`, opcode 0x8E (R174). -/
  | stxAbs (w : Addr)
  /-- `STY $nn`, opcode 0x84 (R175). -/
  | styZp (z : Byte)
  /-- `STY $nn,X`, opcode 0x94 (R175). -/
  | styZpx (z : Byte)
  /-- `STY $nnnn`, opcode 0x8C (R175). -/
  | styAbs (w : Addr)
  /-- `TAX`, opcode 0xAA (R177). -/
  | tax
  /-- `TAY`, opcode 0xA8 (R178). -/
  | tay
  /-- `TXA`, opcode 0x8A (R179). -/
  | txa
  /-- `TYA`, opcode 0x98 (R180). -/
  | tya
  /-- `TSX`, opcode 0xBA (R181). -/
  | tsx
  /-- `TXS`, opcode 0x9A (R182). -/
  | txs
  /-- `ADC #$nn`, opcode 0x69 (R204). -/
  | adcImm (v : Byte)
  /-- `ADC $nn`, opcode 0x65 (R204). -/
  | adcZp (z : Byte)
  /-- `ADC $nn,X`, opcode 0x75 (R204). -/
  | adcZpx (z : Byte)
  /-- `ADC $nnnn`, opcode 0x6D (R204). -/
  | adcAbs (w : Addr)
  /-- `ADC $nnnn,X`, opcode 0x7D (R204). -/
  | adcAbx (w : Addr)
  /-- `ADC $nnnn,Y`, opcode 0x79 (R204). -/
  | adcAby (w : Addr)
  /-- `ADC ($nn,X)`, opcode 0x61 (R204). -/
  | adcIzx (z : Byte)
  /-- `ADC ($nn),Y`, opcode 0x71 (R204). -/
  | adcIzy (z : Byte)
  /-- `SBC #$nn`, opcode 0xE9 (R205). -/
  | sbcImm (v : Byte)
  /-- `SBC $nn`, opcode 0xE5 (R205). -/
  | sbcZp (z : Byte)
  /-- `SBC $nn,X`, opcode 0xF5 (R205). -/
  | sbcZpx (z : Byte)
  /-- `SBC $nnnn`, opcode 0xED (R205). -/
  | sbcAbs (w : Addr)
  /-- `SBC $nnnn,X`, opcode 0xFD (R205). -/
  | sbcAbx (w : Addr)
  /-- `SBC $nnnn,Y`, opcode 0xF9 (R205). -/
  | sbcAby (w : Addr)
  /-- `SBC ($nn,X)`, opcode 0xE1 (R205). -/
  | sbcIzx (z : Byte)
  /-- `SBC ($nn),Y`, opcode 0xF1 (R205). -/
  | sbcIzy (z : Byte)
  /-- `AND #$nn`, opcode 0x29 (R206). -/
  | andImm (v : Byte)
  /-- `AND $nn`, opcode 0x25 (R206). -/
  | andZp (z : Byte)
  /-- `AND $nn,X`, opcode 0x35 (R206). -/
  | andZpx (z : Byte)
  /-- `AND $nnnn`, opcode 0x2D (R206). -/
  | andAbs (w : Addr)
  /-- `AND $nnnn,X`, opcode 0x3D (R206). -/
  | andAbx (w : Addr)
  /-- `AND $nnnn,Y`, opcode 0x39 (R206). -/
  | andAby (w : Addr)
  /-- `AND ($nn,X)`, opcode 0x21 (R206). -/
  | andIzx (z : Byte)
  /-- `AND ($nn),Y`, opcode 0x31 (R206). -/
  | andIzy (z : Byte)
  /-- `ORA #$nn`, opcode 0x09 (R207). -/
  | oraImm (v : Byte)
  /-- `ORA $nn`, opcode 0x05 (R207). -/
  | oraZp (z : Byte)
  /-- `ORA $nn,X`, opcode 0x15 (R207). -/
  | oraZpx (z : Byte)
  /-- `ORA $nnnn`, opcode 0x0D (R207). -/
  | oraAbs (w : Addr)
  /-- `ORA $nnnn,X`, opcode 0x1D (R207). -/
  | oraAbx (w : Addr)
  /-- `ORA $nnnn,Y`, opcode 0x19 (R207). -/
  | oraAby (w : Addr)
  /-- `ORA ($nn,X)`, opcode 0x01 (R207). -/
  | oraIzx (z : Byte)
  /-- `ORA ($nn),Y`, opcode 0x11 (R207). -/
  | oraIzy (z : Byte)
  /-- `EOR #$nn`, opcode 0x49 (R208). -/
  | eorImm (v : Byte)
  /-- `EOR $nn`, opcode 0x45 (R208). -/
  | eorZp (z : Byte)
  /-- `EOR $nn,X`, opcode 0x55 (R208). -/
  | eorZpx (z : Byte)
  /-- `EOR $nnnn`, opcode 0x4D (R208). -/
  | eorAbs (w : Addr)
  /-- `EOR $nnnn,X`, opcode 0x5D (R208). -/
  | eorAbx (w : Addr)
  /-- `EOR $nnnn,Y`, opcode 0x59 (R208). -/
  | eorAby (w : Addr)
  /-- `EOR ($nn,X)`, opcode 0x41 (R208). -/
  | eorIzx (z : Byte)
  /-- `EOR ($nn),Y`, opcode 0x51 (R208). -/
  | eorIzy (z : Byte)
  /-- `CMP #$nn`, opcode 0xC9 (R210). -/
  | cmpImm (v : Byte)
  /-- `CMP $nn`, opcode 0xC5 (R210). -/
  | cmpZp (z : Byte)
  /-- `CMP $nn,X`, opcode 0xD5 (R210). -/
  | cmpZpx (z : Byte)
  /-- `CMP $nnnn`, opcode 0xCD (R210). -/
  | cmpAbs (w : Addr)
  /-- `CMP $nnnn,X`, opcode 0xDD (R210). -/
  | cmpAbx (w : Addr)
  /-- `CMP $nnnn,Y`, opcode 0xD9 (R210). -/
  | cmpAby (w : Addr)
  /-- `CMP ($nn,X)`, opcode 0xC1 (R210). -/
  | cmpIzx (z : Byte)
  /-- `CMP ($nn),Y`, opcode 0xD1 (R210). -/
  | cmpIzy (z : Byte)
  /-- `CPX #$nn`, opcode 0xE0 (R211). -/
  | cpxImm (v : Byte)
  /-- `CPX $nn`, opcode 0xE4 (R211). -/
  | cpxZp (z : Byte)
  /-- `CPX $nnnn`, opcode 0xEC (R211). -/
  | cpxAbs (w : Addr)
  /-- `CPY #$nn`, opcode 0xC0 (R212). -/
  | cpyImm (v : Byte)
  /-- `CPY $nn`, opcode 0xC4 (R212). -/
  | cpyZp (z : Byte)
  /-- `CPY $nnnn`, opcode 0xCC (R212). -/
  | cpyAbs (w : Addr)
  /-- `BIT $nn`, opcode 0x24 (R213). -/
  | bitZp (z : Byte)
  /-- `BIT $nnnn`, opcode 0x2C (R213). -/
  | bitAbs (w : Addr)
  /-- `INC $nn`, opcode 0xE6 (R214). -/
  | incZp (z : Byte)
  /-- `INC $nn,X`, opcode 0xF6 (R214). -/
  | incZpx (z : Byte)
  /-- `INC $nnnn`, opcode 0xEE (R214). -/
  | incAbs (w : Addr)
  /-- `INC $nnnn,X`, opcode 0xFE (R214). -/
  | incAbx (w : Addr)
  /-- `DEC $nn`, opcode 0xC6 (R215). -/
  | decZp (z : Byte)
  /-- `DEC $nn,X`, opcode 0xD6 (R215). -/
  | decZpx (z : Byte)
  /-- `DEC $nnnn`, opcode 0xCE (R215). -/
  | decAbs (w : Addr)
  /-- `DEC $nnnn,X`, opcode 0xDE (R215). -/
  | decAbx (w : Addr)
  /-- `INX`, opcode 0xE8 (R216). -/
  | inx
  /-- `INY`, opcode 0xC8 (R217). -/
  | iny
  /-- `DEX`, opcode 0xCA (R218). -/
  | dex
  /-- `DEY`, opcode 0x88 (R219). -/
  | dey
  /-- `ASL A`, opcode 0x0A (R220). -/
  | aslAcc
  /-- `ASL $nn`, opcode 0x06 (R220). -/
  | aslZp (z : Byte)
  /-- `ASL $nn,X`, opcode 0x16 (R220). -/
  | aslZpx (z : Byte)
  /-- `ASL $nnnn`, opcode 0x0E (R220). -/
  | aslAbs (w : Addr)
  /-- `ASL $nnnn,X`, opcode 0x1E (R220). -/
  | aslAbx (w : Addr)
  /-- `LSR A`, opcode 0x4A (R221). -/
  | lsrAcc
  /-- `LSR $nn`, opcode 0x46 (R221). -/
  | lsrZp (z : Byte)
  /-- `LSR $nn,X`, opcode 0x56 (R221). -/
  | lsrZpx (z : Byte)
  /-- `LSR $nnnn`, opcode 0x4E (R221). -/
  | lsrAbs (w : Addr)
  /-- `LSR $nnnn,X`, opcode 0x5E (R221). -/
  | lsrAbx (w : Addr)
  /-- `ROL A`, opcode 0x2A (R222). -/
  | rolAcc
  /-- `ROL $nn`, opcode 0x26 (R222). -/
  | rolZp (z : Byte)
  /-- `ROL $nn,X`, opcode 0x36 (R222). -/
  | rolZpx (z : Byte)
  /-- `ROL $nnnn`, opcode 0x2E (R222). -/
  | rolAbs (w : Addr)
  /-- `ROL $nnnn,X`, opcode 0x3E (R222). -/
  | rolAbx (w : Addr)
  /-- `ROR A`, opcode 0x6A (R223). -/
  | rorAcc
  /-- `ROR $nn`, opcode 0x66 (R223). -/
  | rorZp (z : Byte)
  /-- `ROR $nn,X`, opcode 0x76 (R223). -/
  | rorZpx (z : Byte)
  /-- `ROR $nnnn`, opcode 0x6E (R223). -/
  | rorAbs (w : Addr)
  /-- `ROR $nnnn,X`, opcode 0x7E (R223). -/
  | rorAbx (w : Addr)
  /-- `CLC`, opcode 0x18 (R243). -/
  | clc
  /-- `SEC`, opcode 0x38 (R244). -/
  | sec
  /-- `CLI`, opcode 0x58 (R245). -/
  | cli
  /-- `SEI`, opcode 0x78 (R246). -/
  | sei
  /-- `CLV`, opcode 0xB8 (R247). -/
  | clv
  /-- `CLD`, opcode 0xD8 (R248). -/
  | cld
  /-- `SED`, opcode 0xF8 (R249). -/
  | sed
  /-- `PHA`, opcode 0x48 (R250). -/
  | pha
  /-- `PHP`, opcode 0x08 (R251). -/
  | php
  /-- `PLA`, opcode 0x68 (R252). -/
  | pla
  /-- `PLP`, opcode 0x28 (R253). -/
  | plp
  /-- `NOP`, opcode 0xEA (R254). -/
  | nop
  /-- `JMP $nnnn`, opcode 0x4C (R260). -/
  | jmpAbs (w : Addr)
  /-- `JMP ($nnnn)`, opcode 0x6C (R261). -/
  | jmpInd (w : Addr)
  /-- `JSR $nnnn`, opcode 0x20 (R262). -/
  | jsr (w : Addr)
  /-- `RTS`, opcode 0x60 (R263). -/
  | rts
  /-- `BPL label`, opcode 0x10 (R267). -/
  | bpl (off : Byte)
  /-- `BMI label`, opcode 0x30 (R268). -/
  | bmi (off : Byte)
  /-- `BVC label`, opcode 0x50 (R269). -/
  | bvc (off : Byte)
  /-- `BVS label`, opcode 0x70 (R270). -/
  | bvs (off : Byte)
  /-- `BCC label`, opcode 0x90 (R271). -/
  | bcc (off : Byte)
  /-- `BCS label`, opcode 0xB0 (R272). -/
  | bcs (off : Byte)
  /-- `BNE label`, opcode 0xD0 (R273). -/
  | bne (off : Byte)
  /-- `BEQ label`, opcode 0xF0 (R274). -/
  | beq (off : Byte)
  /-- `BRK`, opcode 0x00 (R275). -/
  | brk
  /-- `RTI`, opcode 0x40 (R276). -/
  | rti
  deriving DecidableEq, Repr

end Sys2Proof
end

