-- ==== Sys2Proof/WellFormed.lean ====
section
/-! DEFINITION. Well-formedness. Every operand byte value is legal in every mode (30_encoding.md R103), and the operand
types of `Instr` hold exactly those values, so no term of `Instr` is ill-formed by its operands (log 19). What can be
ill-formed is a row of the opcode table: these are the checks that R101, R104, R112 and R113 make of one. -/
namespace Sys2Proof

/-- The instruction length of each mode's format: F1 one byte, F2 two, F3 three (R101, R104). -/
def Mode.formatLength : Mode → Nat
  | .imp => 1
  | .imm => 2
  | .zp => 2
  | .zpx => 2
  | .zpy => 2
  | .abs => 3
  | .abx => 3
  | .aby => 3
  | .ind => 3
  | .izx => 2
  | .izy => 2
  | .rel => 2

/-- A row's length is that of its mode's format (R101). -/
def OpRow.lengthOk (r : OpRow) : Bool := r.length == r.mode.formatLength

/-- The modes each class has rows in (R112, R131): no store to an immediate, relative only for branches, indirect only
for a jump, and so on. -/
def OpRow.modeOk (r : OpRow) : Bool :=
  match r.cls with
  | .read => decide (r.mode ∈ [.imm, .zp, .zpx, .zpy, .abs, .abx, .aby, .izx, .izy])
  | .store => decide (r.mode ∈ [.zp, .zpx, .zpy, .abs, .abx, .aby, .izx, .izy])
  | .rmw => decide (r.mode ∈ [.imp, .zp, .zpx, .abs, .abx])
  | .implied => decide (r.mode = .imp)
  | .jump => decide (r.mode ∈ [.abs, .ind])
  | .branch => decide (r.mode = .rel)

/-- The page-penalty flag is set on exactly the read rows in modes ABX, ABY and IZY (R113). -/
def OpRow.penaltyOk (r : OpRow) : Bool :=
  r.pagePenalty == (decide (r.cls = .read) && decide (r.mode ∈ [.abx, .aby, .izy]))

/-- The base cost follows the regularities of R112: by class and mode, and by mnemonic for the implied and jump rows. -/
def OpRow.cyclesOk (r : OpRow) : Bool :=
  match r.cls with
  | .read =>
    match r.mode with
    | .imm => r.cycles == 2
    | .zp => r.cycles == 3
    | .zpx | .zpy | .abs | .abx | .aby => r.cycles == 4
    | .izx => r.cycles == 6
    | .izy => r.cycles == 5
    | .imp | .ind | .rel => false
  | .store =>
    match r.mode with
    | .zp => r.cycles == 3
    | .zpx | .zpy | .abs => r.cycles == 4
    | .abx | .aby => r.cycles == 5
    | .izx | .izy => r.cycles == 6
    | .imp | .imm | .ind | .rel => false
  | .rmw =>
    match r.mode with
    | .imp => r.cycles == 2
    | .zp => r.cycles == 5
    | .zpx | .abs => r.cycles == 6
    | .abx => r.cycles == 7
    | .imm | .zpy | .aby | .ind | .izx | .izy | .rel => false
  | .implied =>
    if r.mnemonic ∈ [.pha, .php] then r.cycles == 3
    else if r.mnemonic ∈ [.pla, .plp] then r.cycles == 4
    else if r.mnemonic ∈ [.rts, .rti] then r.cycles == 6
    else if r.mnemonic = .brk then r.cycles == 7
    else r.cycles == 2
  | .jump =>
    if r.mnemonic = .jsr then r.cycles == 6
    else if r.mode = .ind then r.cycles == 5
    else r.cycles == 3
  | .branch => r.cycles == 2

/-- A well-formed row of `OPTABLE` (R101, R112, R113, R131). -/
def OpRow.wellFormed (r : OpRow) : Bool := r.lengthOk && r.modeOk && r.penaltyOk && r.cyclesOk

end Sys2Proof
end

