-- ==== Sys2Proof/Decode.lean ====
section
/-! DEFINITION. Decoding and encoding (30_encoding.md R100 to R118), and `OPTABLE` itself (R110): the decoder's table
keyed by the opcode byte, the columns of each row, the mode resolver of R105 to R108, and the encoder. -/
namespace Sys2Proof

/-- The row of `OPTABLE` that an instruction stands in (R110), column by column: mnemonic, opcode, mode, length, base
cycles, page penalty, class. -/
def Instr.row : Instr → OpRow
  | .ldaImm _ => ⟨.lda, 0xA9, .imm, 2, 2, false, .read⟩
  | .ldaZp _ => ⟨.lda, 0xA5, .zp, 2, 3, false, .read⟩
  | .ldaZpx _ => ⟨.lda, 0xB5, .zpx, 2, 4, false, .read⟩
  | .ldaAbs _ => ⟨.lda, 0xAD, .abs, 3, 4, false, .read⟩
  | .ldaAbx _ => ⟨.lda, 0xBD, .abx, 3, 4, true, .read⟩
  | .ldaAby _ => ⟨.lda, 0xB9, .aby, 3, 4, true, .read⟩
  | .ldaIzx _ => ⟨.lda, 0xA1, .izx, 2, 6, false, .read⟩
  | .ldaIzy _ => ⟨.lda, 0xB1, .izy, 2, 5, true, .read⟩
  | .ldxImm _ => ⟨.ldx, 0xA2, .imm, 2, 2, false, .read⟩
  | .ldxZp _ => ⟨.ldx, 0xA6, .zp, 2, 3, false, .read⟩
  | .ldxZpy _ => ⟨.ldx, 0xB6, .zpy, 2, 4, false, .read⟩
  | .ldxAbs _ => ⟨.ldx, 0xAE, .abs, 3, 4, false, .read⟩
  | .ldxAby _ => ⟨.ldx, 0xBE, .aby, 3, 4, true, .read⟩
  | .ldyImm _ => ⟨.ldy, 0xA0, .imm, 2, 2, false, .read⟩
  | .ldyZp _ => ⟨.ldy, 0xA4, .zp, 2, 3, false, .read⟩
  | .ldyZpx _ => ⟨.ldy, 0xB4, .zpx, 2, 4, false, .read⟩
  | .ldyAbs _ => ⟨.ldy, 0xAC, .abs, 3, 4, false, .read⟩
  | .ldyAbx _ => ⟨.ldy, 0xBC, .abx, 3, 4, true, .read⟩
  | .staZp _ => ⟨.sta, 0x85, .zp, 2, 3, false, .store⟩
  | .staZpx _ => ⟨.sta, 0x95, .zpx, 2, 4, false, .store⟩
  | .staAbs _ => ⟨.sta, 0x8D, .abs, 3, 4, false, .store⟩
  | .staAbx _ => ⟨.sta, 0x9D, .abx, 3, 5, false, .store⟩
  | .staAby _ => ⟨.sta, 0x99, .aby, 3, 5, false, .store⟩
  | .staIzx _ => ⟨.sta, 0x81, .izx, 2, 6, false, .store⟩
  | .staIzy _ => ⟨.sta, 0x91, .izy, 2, 6, false, .store⟩
  | .stxZp _ => ⟨.stx, 0x86, .zp, 2, 3, false, .store⟩
  | .stxZpy _ => ⟨.stx, 0x96, .zpy, 2, 4, false, .store⟩
  | .stxAbs _ => ⟨.stx, 0x8E, .abs, 3, 4, false, .store⟩
  | .styZp _ => ⟨.sty, 0x84, .zp, 2, 3, false, .store⟩
  | .styZpx _ => ⟨.sty, 0x94, .zpx, 2, 4, false, .store⟩
  | .styAbs _ => ⟨.sty, 0x8C, .abs, 3, 4, false, .store⟩
  | .tax => ⟨.tax, 0xAA, .imp, 1, 2, false, .implied⟩
  | .tay => ⟨.tay, 0xA8, .imp, 1, 2, false, .implied⟩
  | .txa => ⟨.txa, 0x8A, .imp, 1, 2, false, .implied⟩
  | .tya => ⟨.tya, 0x98, .imp, 1, 2, false, .implied⟩
  | .tsx => ⟨.tsx, 0xBA, .imp, 1, 2, false, .implied⟩
  | .txs => ⟨.txs, 0x9A, .imp, 1, 2, false, .implied⟩
  | .adcImm _ => ⟨.adc, 0x69, .imm, 2, 2, false, .read⟩
  | .adcZp _ => ⟨.adc, 0x65, .zp, 2, 3, false, .read⟩
  | .adcZpx _ => ⟨.adc, 0x75, .zpx, 2, 4, false, .read⟩
  | .adcAbs _ => ⟨.adc, 0x6D, .abs, 3, 4, false, .read⟩
  | .adcAbx _ => ⟨.adc, 0x7D, .abx, 3, 4, true, .read⟩
  | .adcAby _ => ⟨.adc, 0x79, .aby, 3, 4, true, .read⟩
  | .adcIzx _ => ⟨.adc, 0x61, .izx, 2, 6, false, .read⟩
  | .adcIzy _ => ⟨.adc, 0x71, .izy, 2, 5, true, .read⟩
  | .sbcImm _ => ⟨.sbc, 0xE9, .imm, 2, 2, false, .read⟩
  | .sbcZp _ => ⟨.sbc, 0xE5, .zp, 2, 3, false, .read⟩
  | .sbcZpx _ => ⟨.sbc, 0xF5, .zpx, 2, 4, false, .read⟩
  | .sbcAbs _ => ⟨.sbc, 0xED, .abs, 3, 4, false, .read⟩
  | .sbcAbx _ => ⟨.sbc, 0xFD, .abx, 3, 4, true, .read⟩
  | .sbcAby _ => ⟨.sbc, 0xF9, .aby, 3, 4, true, .read⟩
  | .sbcIzx _ => ⟨.sbc, 0xE1, .izx, 2, 6, false, .read⟩
  | .sbcIzy _ => ⟨.sbc, 0xF1, .izy, 2, 5, true, .read⟩
  | .andImm _ => ⟨.and, 0x29, .imm, 2, 2, false, .read⟩
  | .andZp _ => ⟨.and, 0x25, .zp, 2, 3, false, .read⟩
  | .andZpx _ => ⟨.and, 0x35, .zpx, 2, 4, false, .read⟩
  | .andAbs _ => ⟨.and, 0x2D, .abs, 3, 4, false, .read⟩
  | .andAbx _ => ⟨.and, 0x3D, .abx, 3, 4, true, .read⟩
  | .andAby _ => ⟨.and, 0x39, .aby, 3, 4, true, .read⟩
  | .andIzx _ => ⟨.and, 0x21, .izx, 2, 6, false, .read⟩
  | .andIzy _ => ⟨.and, 0x31, .izy, 2, 5, true, .read⟩
  | .oraImm _ => ⟨.ora, 0x09, .imm, 2, 2, false, .read⟩
  | .oraZp _ => ⟨.ora, 0x05, .zp, 2, 3, false, .read⟩
  | .oraZpx _ => ⟨.ora, 0x15, .zpx, 2, 4, false, .read⟩
  | .oraAbs _ => ⟨.ora, 0x0D, .abs, 3, 4, false, .read⟩
  | .oraAbx _ => ⟨.ora, 0x1D, .abx, 3, 4, true, .read⟩
  | .oraAby _ => ⟨.ora, 0x19, .aby, 3, 4, true, .read⟩
  | .oraIzx _ => ⟨.ora, 0x01, .izx, 2, 6, false, .read⟩
  | .oraIzy _ => ⟨.ora, 0x11, .izy, 2, 5, true, .read⟩
  | .eorImm _ => ⟨.eor, 0x49, .imm, 2, 2, false, .read⟩
  | .eorZp _ => ⟨.eor, 0x45, .zp, 2, 3, false, .read⟩
  | .eorZpx _ => ⟨.eor, 0x55, .zpx, 2, 4, false, .read⟩
  | .eorAbs _ => ⟨.eor, 0x4D, .abs, 3, 4, false, .read⟩
  | .eorAbx _ => ⟨.eor, 0x5D, .abx, 3, 4, true, .read⟩
  | .eorAby _ => ⟨.eor, 0x59, .aby, 3, 4, true, .read⟩
  | .eorIzx _ => ⟨.eor, 0x41, .izx, 2, 6, false, .read⟩
  | .eorIzy _ => ⟨.eor, 0x51, .izy, 2, 5, true, .read⟩
  | .cmpImm _ => ⟨.cmp, 0xC9, .imm, 2, 2, false, .read⟩
  | .cmpZp _ => ⟨.cmp, 0xC5, .zp, 2, 3, false, .read⟩
  | .cmpZpx _ => ⟨.cmp, 0xD5, .zpx, 2, 4, false, .read⟩
  | .cmpAbs _ => ⟨.cmp, 0xCD, .abs, 3, 4, false, .read⟩
  | .cmpAbx _ => ⟨.cmp, 0xDD, .abx, 3, 4, true, .read⟩
  | .cmpAby _ => ⟨.cmp, 0xD9, .aby, 3, 4, true, .read⟩
  | .cmpIzx _ => ⟨.cmp, 0xC1, .izx, 2, 6, false, .read⟩
  | .cmpIzy _ => ⟨.cmp, 0xD1, .izy, 2, 5, true, .read⟩
  | .cpxImm _ => ⟨.cpx, 0xE0, .imm, 2, 2, false, .read⟩
  | .cpxZp _ => ⟨.cpx, 0xE4, .zp, 2, 3, false, .read⟩
  | .cpxAbs _ => ⟨.cpx, 0xEC, .abs, 3, 4, false, .read⟩
  | .cpyImm _ => ⟨.cpy, 0xC0, .imm, 2, 2, false, .read⟩
  | .cpyZp _ => ⟨.cpy, 0xC4, .zp, 2, 3, false, .read⟩
  | .cpyAbs _ => ⟨.cpy, 0xCC, .abs, 3, 4, false, .read⟩
  | .bitZp _ => ⟨.bit, 0x24, .zp, 2, 3, false, .read⟩
  | .bitAbs _ => ⟨.bit, 0x2C, .abs, 3, 4, false, .read⟩
  | .incZp _ => ⟨.inc, 0xE6, .zp, 2, 5, false, .rmw⟩
  | .incZpx _ => ⟨.inc, 0xF6, .zpx, 2, 6, false, .rmw⟩
  | .incAbs _ => ⟨.inc, 0xEE, .abs, 3, 6, false, .rmw⟩
  | .incAbx _ => ⟨.inc, 0xFE, .abx, 3, 7, false, .rmw⟩
  | .decZp _ => ⟨.dec, 0xC6, .zp, 2, 5, false, .rmw⟩
  | .decZpx _ => ⟨.dec, 0xD6, .zpx, 2, 6, false, .rmw⟩
  | .decAbs _ => ⟨.dec, 0xCE, .abs, 3, 6, false, .rmw⟩
  | .decAbx _ => ⟨.dec, 0xDE, .abx, 3, 7, false, .rmw⟩
  | .inx => ⟨.inx, 0xE8, .imp, 1, 2, false, .implied⟩
  | .iny => ⟨.iny, 0xC8, .imp, 1, 2, false, .implied⟩
  | .dex => ⟨.dex, 0xCA, .imp, 1, 2, false, .implied⟩
  | .dey => ⟨.dey, 0x88, .imp, 1, 2, false, .implied⟩
  | .aslAcc => ⟨.asl, 0x0A, .imp, 1, 2, false, .rmw⟩
  | .aslZp _ => ⟨.asl, 0x06, .zp, 2, 5, false, .rmw⟩
  | .aslZpx _ => ⟨.asl, 0x16, .zpx, 2, 6, false, .rmw⟩
  | .aslAbs _ => ⟨.asl, 0x0E, .abs, 3, 6, false, .rmw⟩
  | .aslAbx _ => ⟨.asl, 0x1E, .abx, 3, 7, false, .rmw⟩
  | .lsrAcc => ⟨.lsr, 0x4A, .imp, 1, 2, false, .rmw⟩
  | .lsrZp _ => ⟨.lsr, 0x46, .zp, 2, 5, false, .rmw⟩
  | .lsrZpx _ => ⟨.lsr, 0x56, .zpx, 2, 6, false, .rmw⟩
  | .lsrAbs _ => ⟨.lsr, 0x4E, .abs, 3, 6, false, .rmw⟩
  | .lsrAbx _ => ⟨.lsr, 0x5E, .abx, 3, 7, false, .rmw⟩
  | .rolAcc => ⟨.rol, 0x2A, .imp, 1, 2, false, .rmw⟩
  | .rolZp _ => ⟨.rol, 0x26, .zp, 2, 5, false, .rmw⟩
  | .rolZpx _ => ⟨.rol, 0x36, .zpx, 2, 6, false, .rmw⟩
  | .rolAbs _ => ⟨.rol, 0x2E, .abs, 3, 6, false, .rmw⟩
  | .rolAbx _ => ⟨.rol, 0x3E, .abx, 3, 7, false, .rmw⟩
  | .rorAcc => ⟨.ror, 0x6A, .imp, 1, 2, false, .rmw⟩
  | .rorZp _ => ⟨.ror, 0x66, .zp, 2, 5, false, .rmw⟩
  | .rorZpx _ => ⟨.ror, 0x76, .zpx, 2, 6, false, .rmw⟩
  | .rorAbs _ => ⟨.ror, 0x6E, .abs, 3, 6, false, .rmw⟩
  | .rorAbx _ => ⟨.ror, 0x7E, .abx, 3, 7, false, .rmw⟩
  | .clc => ⟨.clc, 0x18, .imp, 1, 2, false, .implied⟩
  | .sec => ⟨.sec, 0x38, .imp, 1, 2, false, .implied⟩
  | .cli => ⟨.cli, 0x58, .imp, 1, 2, false, .implied⟩
  | .sei => ⟨.sei, 0x78, .imp, 1, 2, false, .implied⟩
  | .clv => ⟨.clv, 0xB8, .imp, 1, 2, false, .implied⟩
  | .cld => ⟨.cld, 0xD8, .imp, 1, 2, false, .implied⟩
  | .sed => ⟨.sed, 0xF8, .imp, 1, 2, false, .implied⟩
  | .pha => ⟨.pha, 0x48, .imp, 1, 3, false, .implied⟩
  | .php => ⟨.php, 0x08, .imp, 1, 3, false, .implied⟩
  | .pla => ⟨.pla, 0x68, .imp, 1, 4, false, .implied⟩
  | .plp => ⟨.plp, 0x28, .imp, 1, 4, false, .implied⟩
  | .nop => ⟨.nop, 0xEA, .imp, 1, 2, false, .implied⟩
  | .jmpAbs _ => ⟨.jmp, 0x4C, .abs, 3, 3, false, .jump⟩
  | .jmpInd _ => ⟨.jmp, 0x6C, .ind, 3, 5, false, .jump⟩
  | .jsr _ => ⟨.jsr, 0x20, .abs, 3, 6, false, .jump⟩
  | .rts => ⟨.rts, 0x60, .imp, 1, 6, false, .implied⟩
  | .bpl _ => ⟨.bpl, 0x10, .rel, 2, 2, false, .branch⟩
  | .bmi _ => ⟨.bmi, 0x30, .rel, 2, 2, false, .branch⟩
  | .bvc _ => ⟨.bvc, 0x50, .rel, 2, 2, false, .branch⟩
  | .bvs _ => ⟨.bvs, 0x70, .rel, 2, 2, false, .branch⟩
  | .bcc _ => ⟨.bcc, 0x90, .rel, 2, 2, false, .branch⟩
  | .bcs _ => ⟨.bcs, 0xB0, .rel, 2, 2, false, .branch⟩
  | .bne _ => ⟨.bne, 0xD0, .rel, 2, 2, false, .branch⟩
  | .beq _ => ⟨.beq, 0xF0, .rel, 2, 2, false, .branch⟩
  | .brk => ⟨.brk, 0x00, .imp, 1, 7, false, .implied⟩
  | .rti => ⟨.rti, 0x40, .imp, 1, 6, false, .implied⟩

/-- The operand of an instruction with its addressing mode (R103, R104). -/
def Instr.operand : Instr → Operand
  | .ldaImm v => .imm v
  | .ldaZp z => .zp z
  | .ldaZpx z => .zpx z
  | .ldaAbs w => .abs w
  | .ldaAbx w => .abx w
  | .ldaAby w => .aby w
  | .ldaIzx z => .izx z
  | .ldaIzy z => .izy z
  | .ldxImm v => .imm v
  | .ldxZp z => .zp z
  | .ldxZpy z => .zpy z
  | .ldxAbs w => .abs w
  | .ldxAby w => .aby w
  | .ldyImm v => .imm v
  | .ldyZp z => .zp z
  | .ldyZpx z => .zpx z
  | .ldyAbs w => .abs w
  | .ldyAbx w => .abx w
  | .staZp z => .zp z
  | .staZpx z => .zpx z
  | .staAbs w => .abs w
  | .staAbx w => .abx w
  | .staAby w => .aby w
  | .staIzx z => .izx z
  | .staIzy z => .izy z
  | .stxZp z => .zp z
  | .stxZpy z => .zpy z
  | .stxAbs w => .abs w
  | .styZp z => .zp z
  | .styZpx z => .zpx z
  | .styAbs w => .abs w
  | .tax => .imp
  | .tay => .imp
  | .txa => .imp
  | .tya => .imp
  | .tsx => .imp
  | .txs => .imp
  | .adcImm v => .imm v
  | .adcZp z => .zp z
  | .adcZpx z => .zpx z
  | .adcAbs w => .abs w
  | .adcAbx w => .abx w
  | .adcAby w => .aby w
  | .adcIzx z => .izx z
  | .adcIzy z => .izy z
  | .sbcImm v => .imm v
  | .sbcZp z => .zp z
  | .sbcZpx z => .zpx z
  | .sbcAbs w => .abs w
  | .sbcAbx w => .abx w
  | .sbcAby w => .aby w
  | .sbcIzx z => .izx z
  | .sbcIzy z => .izy z
  | .andImm v => .imm v
  | .andZp z => .zp z
  | .andZpx z => .zpx z
  | .andAbs w => .abs w
  | .andAbx w => .abx w
  | .andAby w => .aby w
  | .andIzx z => .izx z
  | .andIzy z => .izy z
  | .oraImm v => .imm v
  | .oraZp z => .zp z
  | .oraZpx z => .zpx z
  | .oraAbs w => .abs w
  | .oraAbx w => .abx w
  | .oraAby w => .aby w
  | .oraIzx z => .izx z
  | .oraIzy z => .izy z
  | .eorImm v => .imm v
  | .eorZp z => .zp z
  | .eorZpx z => .zpx z
  | .eorAbs w => .abs w
  | .eorAbx w => .abx w
  | .eorAby w => .aby w
  | .eorIzx z => .izx z
  | .eorIzy z => .izy z
  | .cmpImm v => .imm v
  | .cmpZp z => .zp z
  | .cmpZpx z => .zpx z
  | .cmpAbs w => .abs w
  | .cmpAbx w => .abx w
  | .cmpAby w => .aby w
  | .cmpIzx z => .izx z
  | .cmpIzy z => .izy z
  | .cpxImm v => .imm v
  | .cpxZp z => .zp z
  | .cpxAbs w => .abs w
  | .cpyImm v => .imm v
  | .cpyZp z => .zp z
  | .cpyAbs w => .abs w
  | .bitZp z => .zp z
  | .bitAbs w => .abs w
  | .incZp z => .zp z
  | .incZpx z => .zpx z
  | .incAbs w => .abs w
  | .incAbx w => .abx w
  | .decZp z => .zp z
  | .decZpx z => .zpx z
  | .decAbs w => .abs w
  | .decAbx w => .abx w
  | .inx => .imp
  | .iny => .imp
  | .dex => .imp
  | .dey => .imp
  | .aslAcc => .imp
  | .aslZp z => .zp z
  | .aslZpx z => .zpx z
  | .aslAbs w => .abs w
  | .aslAbx w => .abx w
  | .lsrAcc => .imp
  | .lsrZp z => .zp z
  | .lsrZpx z => .zpx z
  | .lsrAbs w => .abs w
  | .lsrAbx w => .abx w
  | .rolAcc => .imp
  | .rolZp z => .zp z
  | .rolZpx z => .zpx z
  | .rolAbs w => .abs w
  | .rolAbx w => .abx w
  | .rorAcc => .imp
  | .rorZp z => .zp z
  | .rorZpx z => .zpx z
  | .rorAbs w => .abs w
  | .rorAbx w => .abx w
  | .clc => .imp
  | .sec => .imp
  | .cli => .imp
  | .sei => .imp
  | .clv => .imp
  | .cld => .imp
  | .sed => .imp
  | .pha => .imp
  | .php => .imp
  | .pla => .imp
  | .plp => .imp
  | .nop => .imp
  | .jmpAbs w => .abs w
  | .jmpInd w => .ind w
  | .jsr w => .abs w
  | .rts => .imp
  | .bpl off => .rel off
  | .bmi off => .rel off
  | .bvc off => .rel off
  | .bvs off => .rel off
  | .bcc off => .rel off
  | .bcs off => .rel off
  | .bne off => .rel off
  | .beq off => .rel off
  | .brk => .imp
  | .rti => .imp

/-- The bytes after the opcode byte: none, the 8-bit operand, or the 16-bit operand low byte first (R101, R103). -/
def Operand.bytes : Operand → List Byte
  | .imp => []
  | .imm v => [v]
  | .zp z => [z]
  | .zpx z => [z]
  | .zpy z => [z]
  | .abs w => [Machine.lo8 w, Machine.hi8 w]
  | .abx w => [Machine.lo8 w, Machine.hi8 w]
  | .aby w => [Machine.lo8 w, Machine.hi8 w]
  | .ind w => [Machine.lo8 w, Machine.hi8 w]
  | .izx z => [z]
  | .izy z => [z]
  | .rel off => [off]

/-- The addressing mode of an operand (R104). -/
def Operand.mode : Operand → Mode
  | .imp => .imp
  | .imm _ => .imm
  | .zp _ => .zp
  | .zpx _ => .zpx
  | .zpy _ => .zpy
  | .abs _ => .abs
  | .abx _ => .abx
  | .aby _ => .aby
  | .ind _ => .ind
  | .izx _ => .izx
  | .izy _ => .izy
  | .rel _ => .rel

/-- How a decoder builds an instruction once it knows the opcode byte: one of the three formats of R101. -/
inductive OpForm where
  /-- F1: the opcode byte alone. -/
  | f1 (i : Instr)
  /-- F2: one operand byte. -/
  | f2 (mk : Byte → Instr)
  /-- F3: two operand bytes, little-endian (R103). -/
  | f3 (mk : Addr → Instr)

/-- The dispatch table: "a closed, statically defined table" keyed by the whole opcode byte (R101, R102, R110); `none`
for the 105 opcode bytes without a row (R116). -/
def opTable (b0 : Byte) : Option OpForm :=
  match b0 with
  | 0x00#8 => some (.f1 .brk)
  | 0x01#8 => some (.f2 .oraIzx)
  | 0x05#8 => some (.f2 .oraZp)
  | 0x06#8 => some (.f2 .aslZp)
  | 0x08#8 => some (.f1 .php)
  | 0x09#8 => some (.f2 .oraImm)
  | 0x0A#8 => some (.f1 .aslAcc)
  | 0x0D#8 => some (.f3 .oraAbs)
  | 0x0E#8 => some (.f3 .aslAbs)
  | 0x10#8 => some (.f2 .bpl)
  | 0x11#8 => some (.f2 .oraIzy)
  | 0x15#8 => some (.f2 .oraZpx)
  | 0x16#8 => some (.f2 .aslZpx)
  | 0x18#8 => some (.f1 .clc)
  | 0x19#8 => some (.f3 .oraAby)
  | 0x1D#8 => some (.f3 .oraAbx)
  | 0x1E#8 => some (.f3 .aslAbx)
  | 0x20#8 => some (.f3 .jsr)
  | 0x21#8 => some (.f2 .andIzx)
  | 0x24#8 => some (.f2 .bitZp)
  | 0x25#8 => some (.f2 .andZp)
  | 0x26#8 => some (.f2 .rolZp)
  | 0x28#8 => some (.f1 .plp)
  | 0x29#8 => some (.f2 .andImm)
  | 0x2A#8 => some (.f1 .rolAcc)
  | 0x2C#8 => some (.f3 .bitAbs)
  | 0x2D#8 => some (.f3 .andAbs)
  | 0x2E#8 => some (.f3 .rolAbs)
  | 0x30#8 => some (.f2 .bmi)
  | 0x31#8 => some (.f2 .andIzy)
  | 0x35#8 => some (.f2 .andZpx)
  | 0x36#8 => some (.f2 .rolZpx)
  | 0x38#8 => some (.f1 .sec)
  | 0x39#8 => some (.f3 .andAby)
  | 0x3D#8 => some (.f3 .andAbx)
  | 0x3E#8 => some (.f3 .rolAbx)
  | 0x40#8 => some (.f1 .rti)
  | 0x41#8 => some (.f2 .eorIzx)
  | 0x45#8 => some (.f2 .eorZp)
  | 0x46#8 => some (.f2 .lsrZp)
  | 0x48#8 => some (.f1 .pha)
  | 0x49#8 => some (.f2 .eorImm)
  | 0x4A#8 => some (.f1 .lsrAcc)
  | 0x4C#8 => some (.f3 .jmpAbs)
  | 0x4D#8 => some (.f3 .eorAbs)
  | 0x4E#8 => some (.f3 .lsrAbs)
  | 0x50#8 => some (.f2 .bvc)
  | 0x51#8 => some (.f2 .eorIzy)
  | 0x55#8 => some (.f2 .eorZpx)
  | 0x56#8 => some (.f2 .lsrZpx)
  | 0x58#8 => some (.f1 .cli)
  | 0x59#8 => some (.f3 .eorAby)
  | 0x5D#8 => some (.f3 .eorAbx)
  | 0x5E#8 => some (.f3 .lsrAbx)
  | 0x60#8 => some (.f1 .rts)
  | 0x61#8 => some (.f2 .adcIzx)
  | 0x65#8 => some (.f2 .adcZp)
  | 0x66#8 => some (.f2 .rorZp)
  | 0x68#8 => some (.f1 .pla)
  | 0x69#8 => some (.f2 .adcImm)
  | 0x6A#8 => some (.f1 .rorAcc)
  | 0x6C#8 => some (.f3 .jmpInd)
  | 0x6D#8 => some (.f3 .adcAbs)
  | 0x6E#8 => some (.f3 .rorAbs)
  | 0x70#8 => some (.f2 .bvs)
  | 0x71#8 => some (.f2 .adcIzy)
  | 0x75#8 => some (.f2 .adcZpx)
  | 0x76#8 => some (.f2 .rorZpx)
  | 0x78#8 => some (.f1 .sei)
  | 0x79#8 => some (.f3 .adcAby)
  | 0x7D#8 => some (.f3 .adcAbx)
  | 0x7E#8 => some (.f3 .rorAbx)
  | 0x81#8 => some (.f2 .staIzx)
  | 0x84#8 => some (.f2 .styZp)
  | 0x85#8 => some (.f2 .staZp)
  | 0x86#8 => some (.f2 .stxZp)
  | 0x88#8 => some (.f1 .dey)
  | 0x8A#8 => some (.f1 .txa)
  | 0x8C#8 => some (.f3 .styAbs)
  | 0x8D#8 => some (.f3 .staAbs)
  | 0x8E#8 => some (.f3 .stxAbs)
  | 0x90#8 => some (.f2 .bcc)
  | 0x91#8 => some (.f2 .staIzy)
  | 0x94#8 => some (.f2 .styZpx)
  | 0x95#8 => some (.f2 .staZpx)
  | 0x96#8 => some (.f2 .stxZpy)
  | 0x98#8 => some (.f1 .tya)
  | 0x99#8 => some (.f3 .staAby)
  | 0x9A#8 => some (.f1 .txs)
  | 0x9D#8 => some (.f3 .staAbx)
  | 0xA0#8 => some (.f2 .ldyImm)
  | 0xA1#8 => some (.f2 .ldaIzx)
  | 0xA2#8 => some (.f2 .ldxImm)
  | 0xA4#8 => some (.f2 .ldyZp)
  | 0xA5#8 => some (.f2 .ldaZp)
  | 0xA6#8 => some (.f2 .ldxZp)
  | 0xA8#8 => some (.f1 .tay)
  | 0xA9#8 => some (.f2 .ldaImm)
  | 0xAA#8 => some (.f1 .tax)
  | 0xAC#8 => some (.f3 .ldyAbs)
  | 0xAD#8 => some (.f3 .ldaAbs)
  | 0xAE#8 => some (.f3 .ldxAbs)
  | 0xB0#8 => some (.f2 .bcs)
  | 0xB1#8 => some (.f2 .ldaIzy)
  | 0xB4#8 => some (.f2 .ldyZpx)
  | 0xB5#8 => some (.f2 .ldaZpx)
  | 0xB6#8 => some (.f2 .ldxZpy)
  | 0xB8#8 => some (.f1 .clv)
  | 0xB9#8 => some (.f3 .ldaAby)
  | 0xBA#8 => some (.f1 .tsx)
  | 0xBC#8 => some (.f3 .ldyAbx)
  | 0xBD#8 => some (.f3 .ldaAbx)
  | 0xBE#8 => some (.f3 .ldxAby)
  | 0xC0#8 => some (.f2 .cpyImm)
  | 0xC1#8 => some (.f2 .cmpIzx)
  | 0xC4#8 => some (.f2 .cpyZp)
  | 0xC5#8 => some (.f2 .cmpZp)
  | 0xC6#8 => some (.f2 .decZp)
  | 0xC8#8 => some (.f1 .iny)
  | 0xC9#8 => some (.f2 .cmpImm)
  | 0xCA#8 => some (.f1 .dex)
  | 0xCC#8 => some (.f3 .cpyAbs)
  | 0xCD#8 => some (.f3 .cmpAbs)
  | 0xCE#8 => some (.f3 .decAbs)
  | 0xD0#8 => some (.f2 .bne)
  | 0xD1#8 => some (.f2 .cmpIzy)
  | 0xD5#8 => some (.f2 .cmpZpx)
  | 0xD6#8 => some (.f2 .decZpx)
  | 0xD8#8 => some (.f1 .cld)
  | 0xD9#8 => some (.f3 .cmpAby)
  | 0xDD#8 => some (.f3 .cmpAbx)
  | 0xDE#8 => some (.f3 .decAbx)
  | 0xE0#8 => some (.f2 .cpxImm)
  | 0xE1#8 => some (.f2 .sbcIzx)
  | 0xE4#8 => some (.f2 .cpxZp)
  | 0xE5#8 => some (.f2 .sbcZp)
  | 0xE6#8 => some (.f2 .incZp)
  | 0xE8#8 => some (.f1 .inx)
  | 0xE9#8 => some (.f2 .sbcImm)
  | 0xEA#8 => some (.f1 .nop)
  | 0xEC#8 => some (.f3 .cpxAbs)
  | 0xED#8 => some (.f3 .sbcAbs)
  | 0xEE#8 => some (.f3 .incAbs)
  | 0xF0#8 => some (.f2 .beq)
  | 0xF1#8 => some (.f2 .sbcIzy)
  | 0xF5#8 => some (.f2 .sbcZpx)
  | 0xF6#8 => some (.f2 .incZpx)
  | 0xF8#8 => some (.f1 .sed)
  | 0xF9#8 => some (.f3 .sbcAby)
  | 0xFD#8 => some (.f3 .sbcAbx)
  | 0xFE#8 => some (.f3 .incAbx)
  | _ => none

/-- Why bytes spell no instruction. -/
inductive DecodeError where
  /-- The opcode byte has no row in `OPTABLE` (R116): the step raises `IllegalOpcode` (60_exceptions.md R300). -/
  | illegalOpcode (op : Byte)
  /-- The list ends before the instruction does. It cannot arise in a step, which always has three bytes (R100). -/
  | truncated
  deriving DecidableEq, Repr

/-- The decoder, total on any bytes: the first instruction and the bytes after it (R100 to R103). -/
def decode : List Byte → Except DecodeError (Instr × List Byte)
  | [] => .error .truncated
  | b0 :: rest =>
    match opTable b0 with
    | none => .error (.illegalOpcode b0)
    | some (.f1 i) => .ok (i, rest)
    | some (.f2 mk) =>
      match rest with
      | b1 :: rest' => .ok (mk b1, rest')
      | [] => .error .truncated
    | some (.f3 mk) =>
      match rest with
      | b1 :: b2 :: rest' => .ok (mk (Machine.cat b2 b1), rest')
      | [_] => .error .truncated
      | [] => .error .truncated

/-- The encoder: the opcode byte of the row, then the operand bytes (R101, R103, R110). -/
def encode (i : Instr) : List Byte := i.row.opcode :: i.operand.bytes

/-- Bytes `k`, `k+1`, ... of a number whose bit 0 is the least significant bit of the first byte. -/
def bytesOfNat : Nat → Nat → List Byte
  | 0, _ => []
  | n + 1, w => BitVec.ofNat 8 w :: bytesOfNat n (w / 256)

/-- What `decode` reads from an instruction whose bits are `w`, numbered as spec/opcode_table.json numbers them: the
first byte is bits 7..0, the second bits 15..8, the third bits 23..16; every bit above `nbits` is 0. -/
def decodeTableWord (nbits w : Nat) : Option Instr :=
  match decode (bytesOfNat 3 (w % 2 ^ nbits)) with
  | .ok (i, _) => some i
  | .error _ => none

/-- `MODE_BASE`, indexed by the low 5 bits of the opcode (R107). -/
def modeBase (low5 : Nat) : Option Mode :=
  match low5 with
  | 0x00 => some .imm
  | 0x01 => some .izx
  | 0x02 => some .imm
  | 0x04 => some .zp
  | 0x05 => some .zp
  | 0x06 => some .zp
  | 0x08 => some .imp
  | 0x09 => some .imm
  | 0x0A => some .imp
  | 0x0C => some .abs
  | 0x0D => some .abs
  | 0x0E => some .abs
  | 0x10 => some .rel
  | 0x11 => some .izy
  | 0x14 => some .zpx
  | 0x15 => some .zpx
  | 0x16 => some .zpx
  | 0x18 => some .imp
  | 0x19 => some .aby
  | 0x1A => some .imp
  | 0x1C => some .abx
  | 0x1D => some .abx
  | 0x1E => some .abx
  | _ => none

/-- `MODE_PATCH`, the exceptions by full opcode value (R108). -/
def modePatch (op : Byte) : Option Mode :=
  match op with
  | 0x00#8 => some .imp
  | 0x40#8 => some .imp
  | 0x60#8 => some .imp
  | 0x20#8 => some .abs
  | 0x6C#8 => some .ind
  | 0x96#8 => some .zpy
  | 0xB6#8 => some .zpy
  | 0xBE#8 => some .aby
  | _ => none

/-- `Mode(op)`, the Addressing Mode Resolver (R105); `none` is the table's `undefined`. -/
def resolveMode (op : Byte) : Option Mode :=
  match modePatch op with
  | some m => some m
  | none => modeBase (op &&& 0x1F#8).toNat

end Sys2Proof
end

