-- ==== Sys2Proof/Machine/Params.lean ====
section
/-! DEFINITION. The parameters of 00_scope.md R6 with the values 92_eei_decisions.md gives this instance (log 7), and
the model's own values where the spec gives none (log 2, log 3, log 6). They stand under Machine/ so that a value can be
mended. -/
namespace Sys2Proof.Machine

/-- The OPEN parameter `JSR_PUSH_OFFSET`, admissible values {2, 3} (R6, R262, D7; log 6). -/
inductive JsrPushOffset where
  | two
  | three
  deriving DecidableEq, Repr, Inhabited

end Sys2Proof.Machine

namespace Sys2Proof.Config

/-- `STACK_PAGE` (R6, R78, D5). -/
def stackPage : Byte := 0x01#8

/-- `VEC_NMI` (R6, R78, D6). -/
def vecNmi : Addr := 0xFFFA#16

/-- `VEC_RESET` (R6, R78, D6). -/
def vecReset : Addr := 0xFFFC#16

/-- `VEC_IRQ` (R6, R78, D6). -/
def vecIrq : Addr := 0xFFFE#16

/-- `VEC_BRK`, shared with the maskable interrupt (R6, R275; 90_conflicts.md C1). -/
def vecBrk : Addr := 0xFFFE#16

/-- `INT_CYCLES`, the cost of every interrupt entry (R6, R305). -/
def intCycles : Nat := 7

/-- `BRK_PUSH_OFFSET` (R6, R275, D8). -/
def brkPushOffset : Addr := 2#16

/-- `RESET_A` (R44, D10). -/
def resetA : Byte := 0x00#8

/-- `RESET_X` (R44, D10). -/
def resetX : Byte := 0x00#8

/-- `RESET_Y` (R44, D10). -/
def resetY : Byte := 0x00#8

/-- `RESET_S` (R44, D10). -/
def resetS : Byte := 0xFD#8

/-- `RESET_P`: I = 1, R = 1, all others 0 (R44, D10). -/
def resetP : Byte := 0x24#8

/-- `RESET_CLOCKS` (R44, D10). -/
def resetClocks : Nat := 0

/-- DESIGN CHOICE (log 2): what a storage byte that nothing has written reads as. The spec leaves it unspecified
(R44, R352 b); zero is the convention of 95_test_vectors.md. -/
def unwrittenByte : Nat → Byte := fun _ => 0x00#8

/-- DESIGN CHOICE (log 3): the storage page that a page shows while nothing has repointed it. -/
def unmappedPage : Nat → Nat := fun p => p

/-- The value of `JSR_PUSH_OFFSET` in `State.reset`: the literal reading of the source (R262, D7; log 6). -/
def resetJsrPushOffset : Machine.JsrPushOffset := .three

end Sys2Proof.Config

namespace Sys2Proof.Machine

/-- Page 0 and page `STACK_PAGE`: always `RAM`, never repointed, free of side effects (R64, R67, R362; log 5). -/
def isRamPage (p : Byte) : Bool := decide (p = 0x00#8) || decide (p = Config.stackPage)

end Sys2Proof.Machine
end

