-- ==== Sys2Proof/Config.lean ====
section
/-! DEFINITION. What is fixed for the machine and is not state (10_state.md R43): the data types of the platform behind
the bus (20_memory.md R62), and the two uninterpreted constants that stand for what a bus access does at a device page
(93_implementation_defined.md U7, log 4). The parameters of 00_scope.md R6 stand in Machine/Params.lean. -/
namespace Sys2Proof.Machine

/-- Storage bytes, as (storage address, byte): the storage of page pointer value q is at q*256 .. q*256+255 (R41). -/
abbrev Memory := List Host.Cell

/-- Page pointers, as (page number, storage page shown) (R41, R61). -/
abbrev PageTable := List (Nat × Nat)

/-- The clock thresholds and the NMI flag the collaborators share with the core (R62 `Iface`; R36, R37, R38). -/
structure Iface where
  /-- Video threshold (R36). -/
  ppuClocks : Nat
  /-- Mapper threshold, 0 = inactive (R37). -/
  irqClocks : Nat
  /-- Pending NMI (R38). -/
  nmiPending : Bool
  deriving DecidableEq, Repr, Inhabited

/-- Everything behind the bus (R42): storage, page pointers, collaborator registers, and which pages are not plain. -/
structure Platform where
  /-- All storage; storage pages 0 and `stackPage` are `RAM` (R64). -/
  store : Memory
  /-- Page pointers of the pages that can be repointed; pages 0 and `stackPage` always show `RAM` (R64, log 5). -/
  map : PageTable
  /-- Video-unit and mapper registers, as one uninterpreted number (R42, log 4). -/
  registers : Nat
  /-- Pages whose bus reads may have side effects: `SideEffectFree(p)` is false (R67, log 5). -/
  readIo : List Byte
  /-- Pages whose bus writes are the platform's own and not a plain store (R62, R78, log 5). -/
  writeIo : List Byte
  deriving DecidableEq, Repr, Inhabited

/-- A page whose pointer can be moved: any but page 0 and page `STACK_PAGE`, which the platform must keep showing `RAM`
(20_memory.md R64, 70_reset_and_hazards.md R362, D28; log 5). -/
abbrev MappablePage := { p : Byte // isRamPage p = false }

/-- A change of storage and of collaborator registers made from outside the core: by a device access or by a collaborator
(R68, R325 c). -/
structure PlatformChange where
  /-- Storage bytes written, in order. -/
  stores : List Host.Cell
  /-- The collaborator registers afterwards. -/
  registers : Nat
  deriving DecidableEq, Repr, Inhabited

/-- What a bus access to a device page does besides yielding a byte (R68): it may change the platform and the
thresholds, may repoint pages, and may raise the NMI flag; it never clears that flag (R303, log 11). A reply that repoints
page 0 or page `STACK_PAGE` cannot be written down: a platform that does so is refused (R64, D28; log 5). -/
structure DeviceReply where
  change : PlatformChange
  /-- Pages repointed, in order, as (page, storage page) (R61). -/
  repoints : List (MappablePage × Nat)
  ppuClocks : Nat
  irqClocks : Nat
  raiseNmi : Bool
  deriving DecidableEq, Repr, Inhabited

end Sys2Proof.Machine

namespace Sys2Proof.Config

/-- `BusRead` at a page that is not side-effect-free: an argument of the model, uninterpreted (R62, U7; log 4). -/
opaque deviceRead : Machine.Platform → Machine.Iface → Nat → Addr → Byte × Machine.DeviceReply

/-- `BusWrite` at a page whose writes are the platform's own: an argument of the model, uninterpreted (R62, U7; log 4). -/
opaque deviceWrite : Machine.Platform → Machine.Iface → Nat → Addr → Byte → Machine.DeviceReply

end Sys2Proof.Config
end

