-- ==== Sys2Proof/Machine/State.lean ====
section
/-! DEFINITION. The state of the machine, 10_state.md R47: "the whole state of the model is the record". Plain data. -/
namespace Sys2Proof.Machine

/-- The whole state (R47), with the model's own field `jsrPushOffset` (log 6). -/
@[ext]
structure State where
  /-- `A`, the accumulator (R20). -/
  a : Byte
  /-- `X`, index register (R20). -/
  x : Byte
  /-- `Y`, index register (R20). -/
  y : Byte
  /-- `S`, the stack pointer (R20). -/
  sp : Byte
  /-- `PC` (R23). -/
  pc : Addr
  /-- `P`, the packed status byte; its N, Z and C positions are not live (R28, R29). -/
  p : Byte
  /-- `zr`, the lazy zero-result field (R25). -/
  zr : Byte
  /-- `nr`, the lazy negative-result field (R25). -/
  nr : Byte
  /-- `cr`, the lazy carry-result field, 0 or 1 (R27, log 16). -/
  cr : Bool
  /-- `clocks`, the cycle counter (R34). -/
  clocks : Nat
  /-- `nextStop`, the boundary of the running batch (R35). -/
  nextStop : Nat
  /-- `ppuClocks`, `irqClocks`, `nmiPending` (R36, R37, R38). -/
  iface : Iface
  /-- `halted`, the fault latch (R40). -/
  halted : Bool
  /-- `platform`: everything behind the bus (R42). -/
  platform : Platform
  /-- The OPEN parameter `JSR_PUSH_OFFSET` (R262, log 6); nothing writes it. -/
  jsrPushOffset : JsrPushOffset
  deriving DecidableEq, Repr

/-- Why the machine stops with a fault. -/
inductive Fault where
  /-- Raised by `step` when `halted` is set: the core has no step until reset (R40, 40_dispatch_addressing.md R152). The
  latch is set by an illegal opcode (60_exceptions.md R300). Raised by `runMoves` when a move leaves `halted` set: the run is
  faulted (60_exceptions.md R334, D22). Safe: the spec gives the machine no move here. -/
  | halted
  deriving DecidableEq, Repr

/-- Why the model declines a move. -/
inductive Refusal where
  /-- Raised by an arm of `exec` that has no meaning yet: none. Safe. -/
  | notModelled (mnemonic : String)
  /-- Raised by `move` when a collaborator's action is asked for while its condition of 60_exceptions.md R325 does not
  hold (log 15). Safe: the protocol has no such move. -/
  | moveNotEnabled
  /-- Raised by `move` when the caller asks to repoint page 0 or page `STACK_PAGE` away from `RAM`: such a platform is refused
  (20_memory.md R64, 70_reset_and_hazards.md R362, D28; log 5). Safe: it is outside the spec. -/
  | ramPageRepointed
  deriving DecidableEq, Repr

/-- What a meaning and a step answer. -/
abbrev Result := Host.Outcome State Fault Refusal

/-- The platform of `State.reset`: nothing stored, every page shows its own storage, no device page (log 2, log 3). -/
def State.resetPlatform : Platform :=
  { store := [], map := [], registers := 0, readIo := [], writeIo := [] }

/-- The machine right after reset (R44, 70_reset_and_hazards.md R350). `pc` is `MemRead(VEC_RESET, 2)` of a memory that
lists nothing, so 0x0000 (log 2, log 12); `zr`, `nr`, `cr` are `resolveFromP` of 0x24. -/
def State.reset : State :=
  { a := Config.resetA
    x := Config.resetX
    y := Config.resetY
    sp := Config.resetS
    pc := 0x0000#16
    p := Config.resetP
    zr := 0x01#8
    nr := 0x00#8
    cr := false
    clocks := Config.resetClocks
    nextStop := 0
    iface := { ppuClocks := 0, irqClocks := 0, nmiPending := false }
    halted := false
    platform := State.resetPlatform
    jsrPushOffset := Config.resetJsrPushOffset }

end Sys2Proof.Machine
end

