-- ==== Sys2Proof/Machine/Regs.lean ====
section
/-! DEFINITION. The accessors of the state: every write of a field goes through one of these (10_state.md R20 to R47).
The widths of the types do the masking that R21 and R23 ask for. -/
namespace Sys2Proof.Machine

/-- `A <- v` (R20). -/
def State.setA (s : State) (v : Byte) : State := { s with a := v }

/-- `X <- v` (R20). -/
def State.setX (s : State) (v : Byte) : State := { s with x := v }

/-- `Y <- v` (R20). -/
def State.setY (s : State) (v : Byte) : State := { s with y := v }

/-- `S <- v` (R20). -/
def State.setSp (s : State) (v : Byte) : State := { s with sp := v }

/-- `pc <- v` (R23). -/
def State.setPc (s : State) (v : Addr) : State := { s with pc := v }

/-- `P <- v`, the whole packed byte (R28). -/
def State.setP (s : State) (v : Byte) : State := { s with p := v }

/-- `zr <- v` (R25). -/
def State.setZr (s : State) (v : Byte) : State := { s with zr := v }

/-- `nr <- v` (R25). -/
def State.setNr (s : State) (v : Byte) : State := { s with nr := v }

/-- `cr <- v` (R25). -/
def State.setCr (s : State) (v : Bool) : State := { s with cr := v }

/-- `clocks <- v` (R34). -/
def State.setClocks (s : State) (v : Nat) : State := { s with clocks := v }

/-- `nextStop <- v` (R35). -/
def State.setNextStop (s : State) (v : Nat) : State := { s with nextStop := v }

/-- The thresholds and the NMI flag (R36 to R38). -/
def State.setIface (s : State) (v : Iface) : State := { s with iface := v }

/-- `halted <- v` (R40). -/
def State.setHalted (s : State) (v : Bool) : State := { s with halted := v }

/-- The platform (R42). -/
def State.setPlatform (s : State) (v : Platform) : State := { s with platform := v }

/-- The part of the state a bus access may change: the platform and the interface record (20_memory.md R68). -/
def State.setBus (s : State) (pl : Platform) (ifc : Iface) : State := { s with platform := pl, iface := ifc }

end Sys2Proof.Machine
end

