-- ==== Sys2Proof/Machine/Flags.lean ====
section
/-! DEFINITION. The ALU / Flag Engine: the flag predicates and the packed status byte (10_state.md R25 to R33), and the
flag computations of the arithmetic, compare, bit-test and shift operations (42_arith_logic.md R200 to R224). -/
namespace Sys2Proof.Machine

/-- `Z()` (R26). -/
def State.zFlag (s : State) : Bool := s.zr == 0x00#8

/-- `N()` (R26). -/
def State.nFlag (s : State) : Bool := s.nr.getLsbD 7

/-- `C()` (R26). -/
def State.cFlag (s : State) : Bool := s.cr

/-- Position of `P.N` (R29). -/
def bitN : Nat := 7

/-- Position of `P.V` (R29). -/
def bitV : Nat := 6

/-- Position of `P.R`, the reserved bit (R29). -/
def bitR : Nat := 5

/-- Position of `P.B` (R29). -/
def bitB : Nat := 4

/-- Position of `P.D` (R29). -/
def bitD : Nat := 3

/-- Position of `P.I` (R29). -/
def bitI : Nat := 2

/-- Position of `P.Z` (R29). -/
def bitZ : Nat := 1

/-- Position of `P.C` (R29). -/
def bitC : Nat := 0

/-- `P.V`, live (R28). -/
def State.vFlag (s : State) : Bool := s.p.getLsbD bitV

/-- `P.D`, live (R28, R31). -/
def State.dFlag (s : State) : Bool := s.p.getLsbD bitD

/-- `P.I`, live (R28). -/
def State.iFlag (s : State) : Bool := s.p.getLsbD bitI

/-- The stored `P.B` (R32). -/
def State.bFlag (s : State) : Bool := s.p.getLsbD bitB

/-- The stored `P.R` (R32). -/
def State.rFlag (s : State) : Bool := s.p.getLsbD bitR

/-- `P.V <- v` (R28). -/
def State.setV (s : State) (v : Bool) : State := s.setP (setBit s.p bitV v)

/-- `P.D <- v` (R28). -/
def State.setD (s : State) (v : Bool) : State := s.setP (setBit s.p bitD v)

/-- `P.I <- v` (R28). -/
def State.setI (s : State) (v : Bool) : State := s.setP (setBit s.p bitI v)

/-- `SetZN(v)` (R27). -/
def State.setZN (s : State) (v : Byte) : State := (s.setZr v).setNr v

/-- `resolveToP()` (R30): the N, Z and C positions of `P` take the predicates. -/
def State.resolveToP (s : State) : State :=
  s.setP (setBit (setBit (setBit s.p bitN s.nFlag) bitZ s.zFlag) bitC s.cFlag)

/-- `resolveFromP()` (R27, R30): the lazy fields take canonical values of the N, Z and C positions of `P`. -/
def State.resolveFromP (s : State) : State :=
  ((s.setZr (if s.p.getLsbD bitZ then 0x00#8 else 0x01#8)).setNr (if s.p.getLsbD bitN then 0x80#8 else 0x00#8)).setCr
    (s.p.getLsbD bitC)

/-- `PackedP(b)`, of a state whose `P` has been resolved (R30): R forced to 1, B forced to `b`. -/
def State.packedP (s : State) (b : Bool) : Byte :=
  (s.p &&& 0xCF#8) ||| 0x20#8 ||| (if b then 0x10#8 else 0x00#8)

/-- The load of `P` from a popped byte by PLP and RTI: B cleared, R set, then `resolveFromP()` (R32, R253, R276). -/
def State.loadStatus (s : State) (v : Byte) : State := (s.setP ((v &&& 0xEF#8) ||| 0x20#8)).resolveFromP

/-- The 9-bit sum of `AddCore` (R202). -/
def addSum (a m : Byte) (c : Bool) : Nat := a.toNat + m.toNat + c.toNat

/-- The truncated result of `AddCore` (R202). -/
def addResult (a m : Byte) (c : Bool) : Byte := BitVec.ofNat 8 (addSum a m c)

/-- The new Carry of `AddCore`: bit 8 of the sum (R202). -/
def addCarry (a m : Byte) (c : Bool) : Bool := (addSum a m c).testBit 8

/-- The new Overflow of `AddCore` (R202). -/
def addOverflow (a m r : Byte) : Bool := (((a ^^^ r) &&& (m ^^^ r)) &&& 0x80#8) != 0x00#8

/-- `AddCore(m)`, shared by ADC and SBC (R202). -/
def addCore (m : Byte) (s : State) : State :=
  (((s.setCr (addCarry s.a m s.cFlag)).setV (addOverflow s.a m (addResult s.a m s.cFlag))).setA
    (addResult s.a m s.cFlag)).setZN (addResult s.a m s.cFlag)

/-- `Compare(reg, M)` (R209). -/
def compareReg (reg m : Byte) (s : State) : State := (s.setCr (decide (m.toNat ≤ reg.toNat))).setZN (reg - m)

/-- The bit test of BIT (R213). -/
def bitTest (m : Byte) (s : State) : State := ((s.setZr (s.a &&& m)).setNr m).setV (m.getLsbD 6)

/-- ASL on a value: the result and the state with the flags written (R220). -/
def aslOp (v : Byte) (s : State) : Byte × State :=
  (v <<< 1, (s.setCr (v.getLsbD 7)).setZN (v <<< 1))

/-- LSR on a value (R221). -/
def lsrOp (v : Byte) (s : State) : Byte × State :=
  (v >>> 1, (s.setCr (v.getLsbD 0)).setZN (v >>> 1))

/-- The result of ROL: the previous Carry enters bit 0 (R222). -/
def rolResult (v : Byte) (c : Bool) : Byte := (v <<< 1) ||| (if c then 0x01#8 else 0x00#8)

/-- ROL on a value (R222). -/
def rolOp (v : Byte) (s : State) : Byte × State :=
  (rolResult v s.cFlag, (s.setCr (v.getLsbD 7)).setZN (rolResult v s.cFlag))

/-- The result of ROR: the previous Carry enters bit 7 (R223). -/
def rorResult (v : Byte) (c : Bool) : Byte := (v >>> 1) ||| (if c then 0x80#8 else 0x00#8)

/-- ROR on a value (R223). -/
def rorOp (v : Byte) (s : State) : Byte × State :=
  (rorResult v s.cFlag, (s.setCr (v.getLsbD 0)).setZN (rorResult v s.cFlag))

/-- INC on a value (R214). -/
def incOp (v : Byte) (s : State) : Byte × State := (v + 1#8, s.setZN (v + 1#8))

/-- DEC on a value (R215). -/
def decOp (v : Byte) (s : State) : Byte × State := (v - 1#8, s.setZN (v - 1#8))

end Sys2Proof.Machine
end

