-- ==== Sys2Proof/Machine/Memory.lean ====
section
/-! DEFINITION. Storage and page pointers as sparse lists in one canonical form, the view of the 64 KB address space
through the page pointers, and the platform's transition functions (20_memory.md R60 to R68). -/
namespace Sys2Proof.Machine

/-- The value at key `k`: that of its first entry, or the default `d k` where no entry lists it. -/
def Sparse.get {α : Type} (d : Nat → α) : List (Nat × α) → Nat → α
  | [], k => d k
  | (k', v) :: l, k => if k' = k then v else Sparse.get d l k

/-- Put an entry before the first greater key. -/
def Sparse.insert {α : Type} (k : Nat) (v : α) : List (Nat × α) → List (Nat × α)
  | [] => [(k, v)]
  | (k', v') :: l => if k < k' then (k, v) :: (k', v') :: l else (k', v') :: Sparse.insert k v l

/-- Drop every entry of key `k`. -/
def Sparse.erase {α : Type} (k : Nat) : List (Nat × α) → List (Nat × α)
  | [] => []
  | (k', v) :: l => if k' = k then Sparse.erase k l else (k', v) :: Sparse.erase k l

/-- Write `v` at `k`; writing the default removes the entry, so that equal contents are equal lists. -/
def Sparse.set {α : Type} [DecidableEq α] (d : Nat → α) (l : List (Nat × α)) (k : Nat) (v : α) : List (Nat × α) :=
  if v = d k then Sparse.erase k l else Sparse.insert k v (Sparse.erase k l)

/-- The canonical form: keys strictly rising, no entry equal to what an unlisted key reads as. -/
def Sparse.wf {α : Type} [DecidableEq α] (d : Nat → α) : List (Nat × α) → Bool
  | [] => true
  | (k, v) :: l => l.all (fun c => decide (k < c.1)) && decide (v ≠ d k) && Sparse.wf d l

/-- One byte of storage; an unlisted byte reads as `Config.unwrittenByte` (log 2). -/
def Memory.read (m : Memory) (k : Nat) : Byte := Sparse.get Config.unwrittenByte m k

/-- Write one byte of storage. -/
def Memory.write (m : Memory) (k : Nat) (v : Byte) : Memory := Sparse.set Config.unwrittenByte m k v

/-- The canonical form of storage. -/
def Memory.wf (m : Memory) : Bool := Sparse.wf Config.unwrittenByte m

/-- `map[p]`, the storage page that page `p` shows (R41, R61). -/
def Platform.shown (pl : Platform) (p : Byte) : Nat :=
  if isRamPage p then p.toNat else Sparse.get Config.unmappedPage pl.map p.toNat

/-- Repoint page `p` to storage page `q` (R61); there is no repointing of page 0 or page `STACK_PAGE` (R64, log 5). -/
def Platform.repoint (pl : Platform) (p : MappablePage) (q : Nat) : Platform :=
  { pl with map := Sparse.set Config.unmappedPage pl.map p.val.toNat q }

/-- The canonical form of the page pointers: sorted, no default entry, no entry for a `RAM` page or past page 255. -/
def PageTable.wf (t : PageTable) : Bool :=
  Sparse.wf Config.unmappedPage t &&
    t.all (fun c => decide (c.1 < 256) && !isRamPage (BitVec.ofNat 8 c.1))

/-- The canonical form of the platform. -/
def Platform.wf (pl : Platform) : Bool := Memory.wf pl.store && PageTable.wf pl.map

/-- The storage address that address `a` shows: the offset in the storage page of its page pointer (R61). -/
def Platform.locate (pl : Platform) (a : Addr) : Nat := pl.shown (hi8 a) * 256 + (lo8 a).toNat

/-- `Peek`: the byte the current page pointer shows at `a`, with no state change (R62). -/
def Platform.peek (pl : Platform) (a : Addr) : Byte := Memory.read pl.store (pl.locate a)

/-- A plain store of one byte at the storage that `a` shows. -/
def Platform.poke (pl : Platform) (a : Addr) (v : Byte) : Platform :=
  { pl with store := Memory.write pl.store (pl.locate a) v }

/-- `SideEffectFree(p)` (R67): at least page 0 and page `STACK_PAGE`. -/
def Platform.sideEffectFree (pl : Platform) (p : Byte) : Bool := isRamPage p || !decide (p ∈ pl.readIo)

/-- The pages where `BusWrite` changes the byte and nothing else; at least page 0 and page `STACK_PAGE` (R64). -/
def Platform.plainWrite (pl : Platform) (p : Byte) : Bool := isRamPage p || !decide (p ∈ pl.writeIo)

/-- Write storage bytes in order. -/
def Memory.writeAll (m : Memory) : List Host.Cell → Memory
  | [] => m
  | (k, v) :: l => Memory.writeAll (Memory.write m k v) l

/-- Repoint pages in order. -/
def Platform.repointAll (pl : Platform) : List (MappablePage × Nat) → Platform
  | [] => pl
  | (p, q) :: l => Platform.repointAll (pl.repoint p q) l

/-- The platform after a change of storage and registers made from outside the core (R68, 60_exceptions.md R325 c). -/
def Platform.apply (pl : Platform) (c : PlatformChange) : Platform :=
  { pl with store := Memory.writeAll pl.store c.stores, registers := c.registers }

/-- The platform after a device access: storage and registers, then the page pointers (R61, R68). -/
def Platform.reply (pl : Platform) (r : DeviceReply) : Platform := (pl.apply r.change).repointAll r.repoints

/-- The interface record after a device access: thresholds as replied; a request raises the NMI flag, and nothing a
device does clears it (60_exceptions.md R303, log 11). -/
def Iface.reply (ifc : Iface) (r : DeviceReply) : Iface :=
  { ppuClocks := r.ppuClocks, irqClocks := r.irqClocks, nmiPending := ifc.nmiPending || r.raiseNmi }

/-- `BusRead` (R62): at a side-effect-free page `Peek` with no change (R67), elsewhere the platform's own. -/
def busRead (pl : Platform) (ifc : Iface) (clk : Nat) (a : Addr) : Byte × Platform × Iface :=
  if pl.sideEffectFree (hi8 a) then (pl.peek a, pl, ifc)
  else
    ((Config.deviceRead pl ifc clk a).1,
      pl.reply (Config.deviceRead pl ifc clk a).2,
      ifc.reply (Config.deviceRead pl ifc clk a).2)

/-- `BusWrite` (R62): at a plain page the byte changes and nothing else (R64), elsewhere the platform's own. -/
def busWrite (pl : Platform) (ifc : Iface) (clk : Nat) (a : Addr) (v : Byte) : Platform × Iface :=
  if pl.plainWrite (hi8 a) then (pl.poke a v, ifc)
  else
    (pl.reply (Config.deviceWrite pl ifc clk a v), ifc.reply (Config.deviceWrite pl ifc clk a v))

end Sys2Proof.Machine
end

