-- ==== Sys2Proof/Machine/Ops.lean ====
section
/-! DEFINITION. The named operations over memory and registers: bus, fast path, fetch (20_memory.md R63 to R72), the
stack primitives (43_flag_stack_ops.md R240, R241), interrupt entry and return (60_exceptions.md R305, R311), and the
fault latch (R300). -/
namespace Sys2Proof.Machine

/-- `MemRead(addr, 1)`: one bus read (R63), at the clock value of the instruction's start (R69). -/
def memRead (a : Addr) (s : State) : Byte × State :=
  ((busRead s.platform s.iface s.clocks a).1,
    s.setBus (busRead s.platform s.iface s.clocks a).2.1 (busRead s.platform s.iface s.clocks a).2.2)

/-- `MemWrite(addr, 1, v)`: one bus write (R63). -/
def memWrite (a : Addr) (v : Byte) (s : State) : State :=
  s.setBus (busWrite s.platform s.iface s.clocks a v).1 (busWrite s.platform s.iface s.clocks a v).2

/-- `MemRead(v, 2)`: two bus reads, low address first, assembled little-endian (R72). -/
def memRead2 (a : Addr) (s : State) : Addr × State :=
  let lo := memRead a s
  let hi := memRead (a + 1#16) lo.2
  (cat hi.1 lo.1, hi.2)

/-- The address of byte `z` of the zero page (R64). -/
def zpAddr (z : Byte) : Addr := cat 0x00#8 z

/-- The address of offset `o` of the stack page (R64, R240). -/
def stackAddr (o : Byte) : Addr := cat Config.stackPage o

/-- `ZpRead(a)`: the fast path (R64). -/
def zpRead (z : Byte) (s : State) : Byte := s.platform.peek (zpAddr z)

/-- `ZpWrite(a, v)`: the fast path (R64). -/
def zpWrite (z v : Byte) (s : State) : State := s.setPlatform (s.platform.poke (zpAddr z) v)

/-- `StackRead(s)`: the fast path (R64). -/
def stackRead (o : Byte) (s : State) : Byte := s.platform.peek (stackAddr o)

/-- `StackWrite(s, v)`: the fast path (R64). -/
def stackWrite (o v : Byte) (s : State) : State := s.setPlatform (s.platform.poke (stackAddr o) v)

/-- `Push(v)` (R240). -/
def push (v : Byte) (s : State) : State := (stackWrite s.sp v s).setSp (s.sp - 1#8)

/-- `Pop()` (R241). -/
def pop (s : State) : Byte × State := (stackRead (s.sp + 1#8) s, s.setSp (s.sp + 1#8))

/-- Push a 16-bit value, high byte first, so that the low byte lies at the lower address (R71, R262, R305). -/
def pushAddr (w : Addr) (s : State) : State := push (lo8 w) (push (hi8 w) s)

/-- Pop a 16-bit value, low byte first (R71, R263, R276). -/
def popAddr (s : State) : Addr × State :=
  let lo := pop s
  let hi := pop lo.2
  (cat hi.1 lo.1, hi.2)

/-- `Fetch(a)`: `Peek` at a side-effect-free page, a bus read elsewhere (R66). -/
def fetchByte (a : Addr) (s : State) : Byte × State :=
  if s.platform.sideEffectFree (hi8 a) then (s.platform.peek a, s) else memRead a s

/-- The three fetch reads of a step, each address masked on its own (R66). -/
def fetch (s : State) : (Byte × Byte × Byte) × State :=
  let r0 := fetchByte s.pc s
  let r1 := fetchByte (s.pc + 1#16) r0.2
  let r2 := fetchByte (s.pc + 2#16) r1.2
  ((r0.1, r1.1, r2.1), r2.2)

/-- Taking an interrupt: `InterruptEntry(vector, b)`, common to IRQ, NMI and BRK (R305). -/
def interruptEntry (vector : Addr) (b : Bool) (s : State) : State :=
  let s1 := (pushAddr s.pc s).resolveToP
  let s2 := push (s1.packedP b) s1
  let v := memRead2 vector s2
  let s3 := (v.2.setPc v.1).setI true
  s3.setClocks (s3.clocks + Config.intCycles)

/-- The return from an interrupt: status, then PC, from the stack (R276, R311). -/
def interruptReturn (s : State) : State :=
  let v := pop s
  let r := popAddr (v.2.loadStatus v.1)
  r.2.setPc r.1

/-- `raise IllegalOpcode`: "does exactly `halted <- 1`" (R300). -/
def raiseIllegalOpcode (s : State) : State := s.setHalted true

/-- `Reset()` (70_reset_and_hazards.md R350). It writes no threshold and no platform state but by its two vector reads
(R44). -/
def resetCore (s : State) : State :=
  let s1 := ((((s.setA Config.resetA).setX Config.resetX).setY Config.resetY).setSp Config.resetS)
  let s2 := (s1.setP Config.resetP).resolveFromP
  let s3 := ((s2.setClocks Config.resetClocks).setNextStop 0).setIface { s2.iface with nmiPending := false }
  let v := memRead2 Config.vecReset (s3.setHalted false)
  v.2.setPc v.1

end Sys2Proof.Machine
end

