-- ==== Sys2Proof/Machine/Operands.lean ====
section
/-! DEFINITION. Effective addresses, operand access and the execution templates (40_dispatch_addressing.md R130 to
R150): every addressing mode once, every class once. -/
namespace Sys2Proof.Machine

/-- An operand that lies in memory: the modes whose effective address names a byte (R135 to R140, R143, R144). -/
inductive MemOperand where
  | zp (z : Byte)
  | zpx (z : Byte)
  | zpy (z : Byte)
  | abs (w : Addr)
  | abx (w : Addr)
  | aby (w : Addr)
  | izx (z : Byte)
  | izy (z : Byte)
  deriving DecidableEq, Repr

/-- An operand that class read consumes: an immediate byte or a byte in memory (R146). -/
inductive ReadOperand where
  | imm (v : Byte)
  | mem (o : MemOperand)
  deriving DecidableEq, Repr

/-- A pointer in the zero page, low byte first, its high byte wrapping in page 0 (R143, R144). -/
def zpPointer (z : Byte) (s : State) : Addr := cat (zpRead (z + 1#8) s) (zpRead z s)

/-- The effective address (R135 to R140, R143, R144). Pointer reads are fast-path reads and change nothing (R148). -/
def MemOperand.ea (o : MemOperand) (s : State) : Addr :=
  match o with
  | .zp z => zext z
  | .zpx z => zext (z + s.x)
  | .zpy z => zext (z + s.y)
  | .abs w => w
  | .abx w => w + zext s.x
  | .aby w => w + zext s.y
  | .izx z => zpPointer (z + s.x) s
  | .izy z => zpPointer z s + zext s.y

/-- `(lo8(base) + index) > 0xFF` (R145). -/
def carriesPage (base : Addr) (index : Byte) : Bool := decide (255 < (lo8 base).toNat + index.toNat)

/-- The page-cross flag, only for ABX, ABY and IZY (R145). -/
def MemOperand.cross (o : MemOperand) (s : State) : Bool :=
  match o with
  | .zp _ => false
  | .zpx _ => false
  | .zpy _ => false
  | .abs _ => false
  | .abx w => carriesPage w s.x
  | .aby w => carriesPage w s.y
  | .izx _ => false
  | .izy z => carriesPage (zpPointer z s) s.y

/-- The zero-page modes, whose operand takes the fast path; the test is on the mode (20_memory.md R65,
41_load_store_transfer.md R176). -/
def MemOperand.fast : MemOperand → Bool
  | .zp _ => true
  | .zpx _ => true
  | .zpy _ => true
  | .abs _ => false
  | .abx _ => false
  | .aby _ => false
  | .izx _ => false
  | .izy _ => false

/-- The page-cross flag of a read operand; an immediate has none (R134, R145). -/
def ReadOperand.cross (o : ReadOperand) (s : State) : Bool :=
  match o with
  | .imm _ => false
  | .mem m => m.cross s

/-- `ReadOperand` at a memory operand: fast path or one bus read, at the effective address (R146). -/
def readMem (o : MemOperand) (s : State) : Byte × State :=
  if o.fast then (zpRead (lo8 (o.ea s)) s, s) else memRead (o.ea s) s

/-- `ReadOperand(mode, ea, b1)` (R146). -/
def readOperand (o : ReadOperand) (s : State) : Byte × State :=
  match o with
  | .imm v => (v, s)
  | .mem m => readMem m s

/-- Write a byte at effective address `a`: fast path or one bus write (R147). -/
def writeAt (fast : Bool) (a : Addr) (v : Byte) (s : State) : State :=
  if fast then zpWrite (lo8 a) v s else memWrite a v s

/-- `StoreOperand(mode, ea, v)`: off the zero page one dummy read at the effective address comes first (R176). -/
def storeOperand (o : MemOperand) (v : Byte) (s : State) : State :=
  if o.fast then zpWrite (lo8 (o.ea s)) v s else memWrite (o.ea s) v (memRead (o.ea s) s).2

/-- The end of a step: `pc <- pc0 + length`, `clocks <- clocks + cycles + extra` (R130, R150). -/
def finish (r : OpRow) (extra : Nat) (s : State) : State :=
  (s.setPc (s.pc + BitVec.ofNat 16 r.length)).setClocks (s.clocks + r.cycles + extra)

/-- The end of a step whose operation wrote PC: only the cost (R130, R150). -/
def spend (cycles : Nat) (s : State) : State := s.setClocks (s.clocks + cycles)

/-- The page-cross cycle: only for rows flagged page-penalty-sensitive (R113, R131, R150). -/
def penalty (r : OpRow) (cross : Bool) : Nat := if r.pagePenalty && cross then 1 else 0

/-- Class read (R131): the operation consumes the operand byte. -/
def runRead (r : OpRow) (o : ReadOperand) (op : Byte → State → State) (s : State) : State :=
  finish r (penalty r (o.cross s)) (op (readOperand o s).1 (readOperand o s).2)

/-- Class store (R131): the operation yields a byte from a register. -/
def runStore (r : OpRow) (o : MemOperand) (v : Byte) (s : State) : State :=
  finish r 0 (storeOperand o v s)

/-- Class rmw on memory (R131): one read, one write, both at the effective address of the instruction's start. -/
def runRmw (r : OpRow) (o : MemOperand) (op : Byte → State → Byte × State) (s : State) : State :=
  let m := readMem o s
  let res := op m.1 m.2
  finish r 0 (writeAt o.fast (o.ea s) res.1 res.2)

/-- Class rmw on the accumulator (R131, R224): no memory access. -/
def runAcc (r : OpRow) (op : Byte → State → Byte × State) (s : State) : State :=
  let res := op s.a s
  finish r 0 (res.2.setA res.1)

/-- Class implied, for operations that do not write PC (R131). -/
def runImplied (r : OpRow) (op : State → State) (s : State) : State := finish r 0 (op s)

/-- The target of a relative branch: `(pc0 + 2 + offset) & 0xFFFF` (R141). -/
def branchTarget (pc0 : Addr) (off : Byte) : Addr := pc0 + 2#16 + sext off

/-- What a taken branch costs beyond its base: 2 across a page, judged from `pc0 + 2`, else 1 (44_control.md R266). -/
def branchExtra (pc0 : Addr) (off : Byte) : Nat :=
  if hi8 (branchTarget pc0 off) ≠ hi8 (pc0 + 2#16) then 2 else 1

/-- Class branch (R131, R266). -/
def runBranch (r : OpRow) (cond : Bool) (off : Byte) (s : State) : State :=
  if cond then spend (r.cycles + branchExtra s.pc off) (s.setPc (branchTarget s.pc off)) else finish r 0 s

/-- The address of the IND pointer's high byte, which never leaves the pointer's page (R142). -/
def indHighAddr (ptr : Addr) : Addr := cat (hi8 ptr) (lo8 ptr + 1#8)

/-- The target of mode IND: two bus reads, low then high (R142). -/
def indirectTarget (ptr : Addr) (s : State) : Addr × State :=
  let lo := memRead ptr s
  let hi := memRead (indHighAddr ptr) lo.2
  (cat hi.1 lo.1, hi.2)

end Sys2Proof.Machine
end

