-- ==== Sys2Proof/Machine/LoadStore.lean ====
section
/-! DEFINITION. Loads, stores and register transfers (41_load_store_transfer.md R170 to R182). -/
namespace Sys2Proof.Machine

/-- `A <- M; SetZN(M)` (R170). -/
def loadA (m : Byte) (s : State) : State := (s.setA m).setZN m

/-- `X <- M; SetZN(M)` (R171). -/
def loadX (m : Byte) (s : State) : State := (s.setX m).setZN m

/-- `Y <- M; SetZN(M)` (R172). -/
def loadY (m : Byte) (s : State) : State := (s.setY m).setZN m

/-- `X <- A; SetZN(A)` (R177). -/
def transferAX (s : State) : State := loadX s.a s

/-- `Y <- A; SetZN(A)` (R178). -/
def transferAY (s : State) : State := loadY s.a s

/-- `A <- X; SetZN(X)` (R179). -/
def transferXA (s : State) : State := loadA s.x s

/-- `A <- Y; SetZN(Y)` (R180). -/
def transferYA (s : State) : State := loadA s.y s

/-- `X <- S; SetZN(S)` (R181). -/
def transferSX (s : State) : State := loadX s.sp s

/-- `S <- X`, no flag written (R182). -/
def transferXS (s : State) : State := s.setSp s.x

/-- `LDA #$nn`: load the accumulator (R170). -/
def execLdaImm (v : Byte) (s : State) : Result :=
  .next (runRead (Instr.ldaImm v).row (.imm v) loadA s)

/-- `LDA $nn`: load the accumulator (R170). -/
def execLdaZp (z : Byte) (s : State) : Result :=
  .next (runRead (Instr.ldaZp z).row (.mem (.zp z)) loadA s)

/-- `LDA $nn,X`: load the accumulator (R170). -/
def execLdaZpx (z : Byte) (s : State) : Result :=
  .next (runRead (Instr.ldaZpx z).row (.mem (.zpx z)) loadA s)

/-- `LDA $nnnn`: load the accumulator (R170). -/
def execLdaAbs (w : Addr) (s : State) : Result :=
  .next (runRead (Instr.ldaAbs w).row (.mem (.abs w)) loadA s)

/-- `LDA $nnnn,X`: load the accumulator (R170). -/
def execLdaAbx (w : Addr) (s : State) : Result :=
  .next (runRead (Instr.ldaAbx w).row (.mem (.abx w)) loadA s)

/-- `LDA $nnnn,Y`: load the accumulator (R170). -/
def execLdaAby (w : Addr) (s : State) : Result :=
  .next (runRead (Instr.ldaAby w).row (.mem (.aby w)) loadA s)

/-- `LDA ($nn,X)`: load the accumulator (R170). -/
def execLdaIzx (z : Byte) (s : State) : Result :=
  .next (runRead (Instr.ldaIzx z).row (.mem (.izx z)) loadA s)

/-- `LDA ($nn),Y`: load the accumulator (R170). -/
def execLdaIzy (z : Byte) (s : State) : Result :=
  .next (runRead (Instr.ldaIzy z).row (.mem (.izy z)) loadA s)

/-- `LDX #$nn`: load X (R171). -/
def execLdxImm (v : Byte) (s : State) : Result :=
  .next (runRead (Instr.ldxImm v).row (.imm v) loadX s)

/-- `LDX $nn`: load X (R171). -/
def execLdxZp (z : Byte) (s : State) : Result :=
  .next (runRead (Instr.ldxZp z).row (.mem (.zp z)) loadX s)

/-- `LDX $nn,Y`: load X (R171). -/
def execLdxZpy (z : Byte) (s : State) : Result :=
  .next (runRead (Instr.ldxZpy z).row (.mem (.zpy z)) loadX s)

/-- `LDX $nnnn`: load X (R171). -/
def execLdxAbs (w : Addr) (s : State) : Result :=
  .next (runRead (Instr.ldxAbs w).row (.mem (.abs w)) loadX s)

/-- `LDX $nnnn,Y`: load X (R171). -/
def execLdxAby (w : Addr) (s : State) : Result :=
  .next (runRead (Instr.ldxAby w).row (.mem (.aby w)) loadX s)

/-- `LDY #$nn`: load Y (R172). -/
def execLdyImm (v : Byte) (s : State) : Result :=
  .next (runRead (Instr.ldyImm v).row (.imm v) loadY s)

/-- `LDY $nn`: load Y (R172). -/
def execLdyZp (z : Byte) (s : State) : Result :=
  .next (runRead (Instr.ldyZp z).row (.mem (.zp z)) loadY s)

/-- `LDY $nn,X`: load Y (R172). -/
def execLdyZpx (z : Byte) (s : State) : Result :=
  .next (runRead (Instr.ldyZpx z).row (.mem (.zpx z)) loadY s)

/-- `LDY $nnnn`: load Y (R172). -/
def execLdyAbs (w : Addr) (s : State) : Result :=
  .next (runRead (Instr.ldyAbs w).row (.mem (.abs w)) loadY s)

/-- `LDY $nnnn,X`: load Y (R172). -/
def execLdyAbx (w : Addr) (s : State) : Result :=
  .next (runRead (Instr.ldyAbx w).row (.mem (.abx w)) loadY s)

/-- `STA $nn`: store the accumulator (R173). -/
def execStaZp (z : Byte) (s : State) : Result :=
  .next (runStore (Instr.staZp z).row (.zp z) s.a s)

/-- `STA $nn,X`: store the accumulator (R173). -/
def execStaZpx (z : Byte) (s : State) : Result :=
  .next (runStore (Instr.staZpx z).row (.zpx z) s.a s)

/-- `STA $nnnn`: store the accumulator (R173). -/
def execStaAbs (w : Addr) (s : State) : Result :=
  .next (runStore (Instr.staAbs w).row (.abs w) s.a s)

/-- `STA $nnnn,X`: store the accumulator (R173). -/
def execStaAbx (w : Addr) (s : State) : Result :=
  .next (runStore (Instr.staAbx w).row (.abx w) s.a s)

/-- `STA $nnnn,Y`: store the accumulator (R173). -/
def execStaAby (w : Addr) (s : State) : Result :=
  .next (runStore (Instr.staAby w).row (.aby w) s.a s)

/-- `STA ($nn,X)`: store the accumulator (R173). -/
def execStaIzx (z : Byte) (s : State) : Result :=
  .next (runStore (Instr.staIzx z).row (.izx z) s.a s)

/-- `STA ($nn),Y`: store the accumulator (R173). -/
def execStaIzy (z : Byte) (s : State) : Result :=
  .next (runStore (Instr.staIzy z).row (.izy z) s.a s)

/-- `STX $nn`: store X (R174). -/
def execStxZp (z : Byte) (s : State) : Result :=
  .next (runStore (Instr.stxZp z).row (.zp z) s.x s)

/-- `STX $nn,Y`: store X (R174). -/
def execStxZpy (z : Byte) (s : State) : Result :=
  .next (runStore (Instr.stxZpy z).row (.zpy z) s.x s)

/-- `STX $nnnn`: store X (R174). -/
def execStxAbs (w : Addr) (s : State) : Result :=
  .next (runStore (Instr.stxAbs w).row (.abs w) s.x s)

/-- `STY $nn`: store Y (R175). -/
def execStyZp (z : Byte) (s : State) : Result :=
  .next (runStore (Instr.styZp z).row (.zp z) s.y s)

/-- `STY $nn,X`: store Y (R175). -/
def execStyZpx (z : Byte) (s : State) : Result :=
  .next (runStore (Instr.styZpx z).row (.zpx z) s.y s)

/-- `STY $nnnn`: store Y (R175). -/
def execStyAbs (w : Addr) (s : State) : Result :=
  .next (runStore (Instr.styAbs w).row (.abs w) s.y s)

/-- `TAX`: transfer A to X (R177). -/
def execTax (s : State) : Result :=
  .next (runImplied Instr.tax.row transferAX s)

/-- `TAY`: transfer A to Y (R178). -/
def execTay (s : State) : Result :=
  .next (runImplied Instr.tay.row transferAY s)

/-- `TXA`: transfer X to A (R179). -/
def execTxa (s : State) : Result :=
  .next (runImplied Instr.txa.row transferXA s)

/-- `TYA`: transfer Y to A (R180). -/
def execTya (s : State) : Result :=
  .next (runImplied Instr.tya.row transferYA s)

/-- `TSX`: transfer S to X (R181). -/
def execTsx (s : State) : Result :=
  .next (runImplied Instr.tsx.row transferSX s)

/-- `TXS`: transfer X to S (R182). -/
def execTxs (s : State) : Result :=
  .next (runImplied Instr.txs.row transferXS s)

end Sys2Proof.Machine
end

