-- ==== Sys2Proof/Machine/ArithLogic.lean ====
section
/-! DEFINITION. Arithmetic, logic, compare, bit test, increment and shift instructions (42_arith_logic.md R200 to R224). -/
namespace Sys2Proof.Machine

/-- `AddCore(M)` (R204). -/
def adcOp (m : Byte) (s : State) : State := addCore m s

/-- `AddCore(M ^ 0xFF)`: one's complement of the operand (R205). -/
def sbcOp (m : Byte) (s : State) : State := addCore (m ^^^ 0xFF#8) s

/-- `A <- A & M; SetZN(A)` (R206). -/
def andOp (m : Byte) (s : State) : State := loadA (s.a &&& m) s

/-- `A <- A | M; SetZN(A)` (R207). -/
def oraOp (m : Byte) (s : State) : State := loadA (s.a ||| m) s

/-- `A <- A ^ M; SetZN(A)` (R208). -/
def eorOp (m : Byte) (s : State) : State := loadA (s.a ^^^ m) s

/-- `Compare(A, M)` (R210). -/
def cmpOp (m : Byte) (s : State) : State := compareReg s.a m s

/-- `Compare(X, M)` (R211). -/
def cpxOp (m : Byte) (s : State) : State := compareReg s.x m s

/-- `Compare(Y, M)` (R212). -/
def cpyOp (m : Byte) (s : State) : State := compareReg s.y m s

/-- `X <- (X + 1) & 0xFF; SetZN(X)` (R216). -/
def inxOp (s : State) : State := loadX (s.x + 1#8) s

/-- `Y <- (Y + 1) & 0xFF; SetZN(Y)` (R217). -/
def inyOp (s : State) : State := loadY (s.y + 1#8) s

/-- `X <- (X - 1) & 0xFF; SetZN(X)` (R218). -/
def dexOp (s : State) : State := loadX (s.x - 1#8) s

/-- `Y <- (Y - 1) & 0xFF; SetZN(Y)` (R219). -/
def deyOp (s : State) : State := loadY (s.y - 1#8) s

/-- `ADC #$nn`: add with carry (R204). -/
def execAdcImm (v : Byte) (s : State) : Result :=
  .next (runRead (Instr.adcImm v).row (.imm v) adcOp s)

/-- `ADC $nn`: add with carry (R204). -/
def execAdcZp (z : Byte) (s : State) : Result :=
  .next (runRead (Instr.adcZp z).row (.mem (.zp z)) adcOp s)

/-- `ADC $nn,X`: add with carry (R204). -/
def execAdcZpx (z : Byte) (s : State) : Result :=
  .next (runRead (Instr.adcZpx z).row (.mem (.zpx z)) adcOp s)

/-- `ADC $nnnn`: add with carry (R204). -/
def execAdcAbs (w : Addr) (s : State) : Result :=
  .next (runRead (Instr.adcAbs w).row (.mem (.abs w)) adcOp s)

/-- `ADC $nnnn,X`: add with carry (R204). -/
def execAdcAbx (w : Addr) (s : State) : Result :=
  .next (runRead (Instr.adcAbx w).row (.mem (.abx w)) adcOp s)

/-- `ADC $nnnn,Y`: add with carry (R204). -/
def execAdcAby (w : Addr) (s : State) : Result :=
  .next (runRead (Instr.adcAby w).row (.mem (.aby w)) adcOp s)

/-- `ADC ($nn,X)`: add with carry (R204). -/
def execAdcIzx (z : Byte) (s : State) : Result :=
  .next (runRead (Instr.adcIzx z).row (.mem (.izx z)) adcOp s)

/-- `ADC ($nn),Y`: add with carry (R204). -/
def execAdcIzy (z : Byte) (s : State) : Result :=
  .next (runRead (Instr.adcIzy z).row (.mem (.izy z)) adcOp s)

/-- `SBC #$nn`: subtract with borrow (R205). -/
def execSbcImm (v : Byte) (s : State) : Result :=
  .next (runRead (Instr.sbcImm v).row (.imm v) sbcOp s)

/-- `SBC $nn`: subtract with borrow (R205). -/
def execSbcZp (z : Byte) (s : State) : Result :=
  .next (runRead (Instr.sbcZp z).row (.mem (.zp z)) sbcOp s)

/-- `SBC $nn,X`: subtract with borrow (R205). -/
def execSbcZpx (z : Byte) (s : State) : Result :=
  .next (runRead (Instr.sbcZpx z).row (.mem (.zpx z)) sbcOp s)

/-- `SBC $nnnn`: subtract with borrow (R205). -/
def execSbcAbs (w : Addr) (s : State) : Result :=
  .next (runRead (Instr.sbcAbs w).row (.mem (.abs w)) sbcOp s)

/-- `SBC $nnnn,X`: subtract with borrow (R205). -/
def execSbcAbx (w : Addr) (s : State) : Result :=
  .next (runRead (Instr.sbcAbx w).row (.mem (.abx w)) sbcOp s)

/-- `SBC $nnnn,Y`: subtract with borrow (R205). -/
def execSbcAby (w : Addr) (s : State) : Result :=
  .next (runRead (Instr.sbcAby w).row (.mem (.aby w)) sbcOp s)

/-- `SBC ($nn,X)`: subtract with borrow (R205). -/
def execSbcIzx (z : Byte) (s : State) : Result :=
  .next (runRead (Instr.sbcIzx z).row (.mem (.izx z)) sbcOp s)

/-- `SBC ($nn),Y`: subtract with borrow (R205). -/
def execSbcIzy (z : Byte) (s : State) : Result :=
  .next (runRead (Instr.sbcIzy z).row (.mem (.izy z)) sbcOp s)

/-- `AND #$nn`: bitwise and (R206). -/
def execAndImm (v : Byte) (s : State) : Result :=
  .next (runRead (Instr.andImm v).row (.imm v) andOp s)

/-- `AND $nn`: bitwise and (R206). -/
def execAndZp (z : Byte) (s : State) : Result :=
  .next (runRead (Instr.andZp z).row (.mem (.zp z)) andOp s)

/-- `AND $nn,X`: bitwise and (R206). -/
def execAndZpx (z : Byte) (s : State) : Result :=
  .next (runRead (Instr.andZpx z).row (.mem (.zpx z)) andOp s)

/-- `AND $nnnn`: bitwise and (R206). -/
def execAndAbs (w : Addr) (s : State) : Result :=
  .next (runRead (Instr.andAbs w).row (.mem (.abs w)) andOp s)

/-- `AND $nnnn,X`: bitwise and (R206). -/
def execAndAbx (w : Addr) (s : State) : Result :=
  .next (runRead (Instr.andAbx w).row (.mem (.abx w)) andOp s)

/-- `AND $nnnn,Y`: bitwise and (R206). -/
def execAndAby (w : Addr) (s : State) : Result :=
  .next (runRead (Instr.andAby w).row (.mem (.aby w)) andOp s)

/-- `AND ($nn,X)`: bitwise and (R206). -/
def execAndIzx (z : Byte) (s : State) : Result :=
  .next (runRead (Instr.andIzx z).row (.mem (.izx z)) andOp s)

/-- `AND ($nn),Y`: bitwise and (R206). -/
def execAndIzy (z : Byte) (s : State) : Result :=
  .next (runRead (Instr.andIzy z).row (.mem (.izy z)) andOp s)

/-- `ORA #$nn`: inclusive or (R207). -/
def execOraImm (v : Byte) (s : State) : Result :=
  .next (runRead (Instr.oraImm v).row (.imm v) oraOp s)

/-- `ORA $nn`: inclusive or (R207). -/
def execOraZp (z : Byte) (s : State) : Result :=
  .next (runRead (Instr.oraZp z).row (.mem (.zp z)) oraOp s)

/-- `ORA $nn,X`: inclusive or (R207). -/
def execOraZpx (z : Byte) (s : State) : Result :=
  .next (runRead (Instr.oraZpx z).row (.mem (.zpx z)) oraOp s)

/-- `ORA $nnnn`: inclusive or (R207). -/
def execOraAbs (w : Addr) (s : State) : Result :=
  .next (runRead (Instr.oraAbs w).row (.mem (.abs w)) oraOp s)

/-- `ORA $nnnn,X`: inclusive or (R207). -/
def execOraAbx (w : Addr) (s : State) : Result :=
  .next (runRead (Instr.oraAbx w).row (.mem (.abx w)) oraOp s)

/-- `ORA $nnnn,Y`: inclusive or (R207). -/
def execOraAby (w : Addr) (s : State) : Result :=
  .next (runRead (Instr.oraAby w).row (.mem (.aby w)) oraOp s)

/-- `ORA ($nn,X)`: inclusive or (R207). -/
def execOraIzx (z : Byte) (s : State) : Result :=
  .next (runRead (Instr.oraIzx z).row (.mem (.izx z)) oraOp s)

/-- `ORA ($nn),Y`: inclusive or (R207). -/
def execOraIzy (z : Byte) (s : State) : Result :=
  .next (runRead (Instr.oraIzy z).row (.mem (.izy z)) oraOp s)

/-- `EOR #$nn`: exclusive or (R208). -/
def execEorImm (v : Byte) (s : State) : Result :=
  .next (runRead (Instr.eorImm v).row (.imm v) eorOp s)

/-- `EOR $nn`: exclusive or (R208). -/
def execEorZp (z : Byte) (s : State) : Result :=
  .next (runRead (Instr.eorZp z).row (.mem (.zp z)) eorOp s)

/-- `EOR $nn,X`: exclusive or (R208). -/
def execEorZpx (z : Byte) (s : State) : Result :=
  .next (runRead (Instr.eorZpx z).row (.mem (.zpx z)) eorOp s)

/-- `EOR $nnnn`: exclusive or (R208). -/
def execEorAbs (w : Addr) (s : State) : Result :=
  .next (runRead (Instr.eorAbs w).row (.mem (.abs w)) eorOp s)

/-- `EOR $nnnn,X`: exclusive or (R208). -/
def execEorAbx (w : Addr) (s : State) : Result :=
  .next (runRead (Instr.eorAbx w).row (.mem (.abx w)) eorOp s)

/-- `EOR $nnnn,Y`: exclusive or (R208). -/
def execEorAby (w : Addr) (s : State) : Result :=
  .next (runRead (Instr.eorAby w).row (.mem (.aby w)) eorOp s)

/-- `EOR ($nn,X)`: exclusive or (R208). -/
def execEorIzx (z : Byte) (s : State) : Result :=
  .next (runRead (Instr.eorIzx z).row (.mem (.izx z)) eorOp s)

/-- `EOR ($nn),Y`: exclusive or (R208). -/
def execEorIzy (z : Byte) (s : State) : Result :=
  .next (runRead (Instr.eorIzy z).row (.mem (.izy z)) eorOp s)

/-- `CMP #$nn`: compare A (R210). -/
def execCmpImm (v : Byte) (s : State) : Result :=
  .next (runRead (Instr.cmpImm v).row (.imm v) cmpOp s)

/-- `CMP $nn`: compare A (R210). -/
def execCmpZp (z : Byte) (s : State) : Result :=
  .next (runRead (Instr.cmpZp z).row (.mem (.zp z)) cmpOp s)

/-- `CMP $nn,X`: compare A (R210). -/
def execCmpZpx (z : Byte) (s : State) : Result :=
  .next (runRead (Instr.cmpZpx z).row (.mem (.zpx z)) cmpOp s)

/-- `CMP $nnnn`: compare A (R210). -/
def execCmpAbs (w : Addr) (s : State) : Result :=
  .next (runRead (Instr.cmpAbs w).row (.mem (.abs w)) cmpOp s)

/-- `CMP $nnnn,X`: compare A (R210). -/
def execCmpAbx (w : Addr) (s : State) : Result :=
  .next (runRead (Instr.cmpAbx w).row (.mem (.abx w)) cmpOp s)

/-- `CMP $nnnn,Y`: compare A (R210). -/
def execCmpAby (w : Addr) (s : State) : Result :=
  .next (runRead (Instr.cmpAby w).row (.mem (.aby w)) cmpOp s)

/-- `CMP ($nn,X)`: compare A (R210). -/
def execCmpIzx (z : Byte) (s : State) : Result :=
  .next (runRead (Instr.cmpIzx z).row (.mem (.izx z)) cmpOp s)

/-- `CMP ($nn),Y`: compare A (R210). -/
def execCmpIzy (z : Byte) (s : State) : Result :=
  .next (runRead (Instr.cmpIzy z).row (.mem (.izy z)) cmpOp s)

/-- `CPX #$nn`: compare X (R211). -/
def execCpxImm (v : Byte) (s : State) : Result :=
  .next (runRead (Instr.cpxImm v).row (.imm v) cpxOp s)

/-- `CPX $nn`: compare X (R211). -/
def execCpxZp (z : Byte) (s : State) : Result :=
  .next (runRead (Instr.cpxZp z).row (.mem (.zp z)) cpxOp s)

/-- `CPX $nnnn`: compare X (R211). -/
def execCpxAbs (w : Addr) (s : State) : Result :=
  .next (runRead (Instr.cpxAbs w).row (.mem (.abs w)) cpxOp s)

/-- `CPY #$nn`: compare Y (R212). -/
def execCpyImm (v : Byte) (s : State) : Result :=
  .next (runRead (Instr.cpyImm v).row (.imm v) cpyOp s)

/-- `CPY $nn`: compare Y (R212). -/
def execCpyZp (z : Byte) (s : State) : Result :=
  .next (runRead (Instr.cpyZp z).row (.mem (.zp z)) cpyOp s)

/-- `CPY $nnnn`: compare Y (R212). -/
def execCpyAbs (w : Addr) (s : State) : Result :=
  .next (runRead (Instr.cpyAbs w).row (.mem (.abs w)) cpyOp s)

/-- `BIT $nn`: bit test (R213). -/
def execBitZp (z : Byte) (s : State) : Result :=
  .next (runRead (Instr.bitZp z).row (.mem (.zp z)) bitTest s)

/-- `BIT $nnnn`: bit test (R213). -/
def execBitAbs (w : Addr) (s : State) : Result :=
  .next (runRead (Instr.bitAbs w).row (.mem (.abs w)) bitTest s)

/-- `INC $nn`: increment memory (R214). -/
def execIncZp (z : Byte) (s : State) : Result :=
  .next (runRmw (Instr.incZp z).row (.zp z) incOp s)

/-- `INC $nn,X`: increment memory (R214). -/
def execIncZpx (z : Byte) (s : State) : Result :=
  .next (runRmw (Instr.incZpx z).row (.zpx z) incOp s)

/-- `INC $nnnn`: increment memory (R214). -/
def execIncAbs (w : Addr) (s : State) : Result :=
  .next (runRmw (Instr.incAbs w).row (.abs w) incOp s)

/-- `INC $nnnn,X`: increment memory (R214). -/
def execIncAbx (w : Addr) (s : State) : Result :=
  .next (runRmw (Instr.incAbx w).row (.abx w) incOp s)

/-- `DEC $nn`: decrement memory (R215). -/
def execDecZp (z : Byte) (s : State) : Result :=
  .next (runRmw (Instr.decZp z).row (.zp z) decOp s)

/-- `DEC $nn,X`: decrement memory (R215). -/
def execDecZpx (z : Byte) (s : State) : Result :=
  .next (runRmw (Instr.decZpx z).row (.zpx z) decOp s)

/-- `DEC $nnnn`: decrement memory (R215). -/
def execDecAbs (w : Addr) (s : State) : Result :=
  .next (runRmw (Instr.decAbs w).row (.abs w) decOp s)

/-- `DEC $nnnn,X`: decrement memory (R215). -/
def execDecAbx (w : Addr) (s : State) : Result :=
  .next (runRmw (Instr.decAbx w).row (.abx w) decOp s)

/-- `INX`: increment X (R216). -/
def execInx (s : State) : Result :=
  .next (runImplied Instr.inx.row inxOp s)

/-- `INY`: increment Y (R217). -/
def execIny (s : State) : Result :=
  .next (runImplied Instr.iny.row inyOp s)

/-- `DEX`: decrement X (R218). -/
def execDex (s : State) : Result :=
  .next (runImplied Instr.dex.row dexOp s)

/-- `DEY`: decrement Y (R219). -/
def execDey (s : State) : Result :=
  .next (runImplied Instr.dey.row deyOp s)

/-- `ASL A`: arithmetic shift left (R220). -/
def execAslAcc (s : State) : Result :=
  .next (runAcc Instr.aslAcc.row aslOp s)

/-- `ASL $nn`: arithmetic shift left (R220). -/
def execAslZp (z : Byte) (s : State) : Result :=
  .next (runRmw (Instr.aslZp z).row (.zp z) aslOp s)

/-- `ASL $nn,X`: arithmetic shift left (R220). -/
def execAslZpx (z : Byte) (s : State) : Result :=
  .next (runRmw (Instr.aslZpx z).row (.zpx z) aslOp s)

/-- `ASL $nnnn`: arithmetic shift left (R220). -/
def execAslAbs (w : Addr) (s : State) : Result :=
  .next (runRmw (Instr.aslAbs w).row (.abs w) aslOp s)

/-- `ASL $nnnn,X`: arithmetic shift left (R220). -/
def execAslAbx (w : Addr) (s : State) : Result :=
  .next (runRmw (Instr.aslAbx w).row (.abx w) aslOp s)

/-- `LSR A`: logical shift right (R221). -/
def execLsrAcc (s : State) : Result :=
  .next (runAcc Instr.lsrAcc.row lsrOp s)

/-- `LSR $nn`: logical shift right (R221). -/
def execLsrZp (z : Byte) (s : State) : Result :=
  .next (runRmw (Instr.lsrZp z).row (.zp z) lsrOp s)

/-- `LSR $nn,X`: logical shift right (R221). -/
def execLsrZpx (z : Byte) (s : State) : Result :=
  .next (runRmw (Instr.lsrZpx z).row (.zpx z) lsrOp s)

/-- `LSR $nnnn`: logical shift right (R221). -/
def execLsrAbs (w : Addr) (s : State) : Result :=
  .next (runRmw (Instr.lsrAbs w).row (.abs w) lsrOp s)

/-- `LSR $nnnn,X`: logical shift right (R221). -/
def execLsrAbx (w : Addr) (s : State) : Result :=
  .next (runRmw (Instr.lsrAbx w).row (.abx w) lsrOp s)

/-- `ROL A`: rotate left through carry (R222). -/
def execRolAcc (s : State) : Result :=
  .next (runAcc Instr.rolAcc.row rolOp s)

/-- `ROL $nn`: rotate left through carry (R222). -/
def execRolZp (z : Byte) (s : State) : Result :=
  .next (runRmw (Instr.rolZp z).row (.zp z) rolOp s)

/-- `ROL $nn,X`: rotate left through carry (R222). -/
def execRolZpx (z : Byte) (s : State) : Result :=
  .next (runRmw (Instr.rolZpx z).row (.zpx z) rolOp s)

/-- `ROL $nnnn`: rotate left through carry (R222). -/
def execRolAbs (w : Addr) (s : State) : Result :=
  .next (runRmw (Instr.rolAbs w).row (.abs w) rolOp s)

/-- `ROL $nnnn,X`: rotate left through carry (R222). -/
def execRolAbx (w : Addr) (s : State) : Result :=
  .next (runRmw (Instr.rolAbx w).row (.abx w) rolOp s)

/-- `ROR A`: rotate right through carry (R223). -/
def execRorAcc (s : State) : Result :=
  .next (runAcc Instr.rorAcc.row rorOp s)

/-- `ROR $nn`: rotate right through carry (R223). -/
def execRorZp (z : Byte) (s : State) : Result :=
  .next (runRmw (Instr.rorZp z).row (.zp z) rorOp s)

/-- `ROR $nn,X`: rotate right through carry (R223). -/
def execRorZpx (z : Byte) (s : State) : Result :=
  .next (runRmw (Instr.rorZpx z).row (.zpx z) rorOp s)

/-- `ROR $nnnn`: rotate right through carry (R223). -/
def execRorAbs (w : Addr) (s : State) : Result :=
  .next (runRmw (Instr.rorAbs w).row (.abs w) rorOp s)

/-- `ROR $nnnn,X`: rotate right through carry (R223). -/
def execRorAbx (w : Addr) (s : State) : Result :=
  .next (runRmw (Instr.rorAbx w).row (.abx w) rorOp s)

end Sys2Proof.Machine
end

