-- ==== Sys2Proof/Machine/Control.lean ====
section
/-! DEFINITION. Control transfer: jumps, call and return, branches, BRK and RTI (44_control.md R260 to R276). -/
namespace Sys2Proof.Machine

/-- `JSR_PUSH_OFFSET` as a number (R262, log 6). -/
def jsrOffset : JsrPushOffset → Addr
  | .two => 2#16
  | .three => 3#16

/-- The return address JSR pushes: `(pc0 + JSR_PUSH_OFFSET) & 0xFFFF` (R262). -/
def jsrReturn (s : State) : Addr := s.pc + jsrOffset s.jsrPushOffset

/-- `JMP $nnnn`: jump; a jump to itself sets `clocks` to `nextStop` in place of its cost (R260, log 10). -/
def execJmpAbs (w : Addr) (s : State) : Result :=
  if w = s.pc then .next ((s.setPc w).setClocks s.nextStop)
  else .next (spend (Instr.jmpAbs w).row.cycles (s.setPc w))

/-- `JMP ($nnnn)`: jump through a pointer whose high byte never crosses the pointer's page (R261, R142). -/
def execJmpInd (w : Addr) (s : State) : Result :=
  let t := indirectTarget w s
  .next (spend (Instr.jmpInd w).row.cycles (t.2.setPc t.1))

/-- `JSR $nnnn`: push the return address, high byte first, and jump (R262). -/
def execJsr (w : Addr) (s : State) : Result :=
  .next (spend (Instr.jsr w).row.cycles ((pushAddr (jsrReturn s) s).setPc w))

/-- `RTS`: pop the address, low byte first, and add one (R263). -/
def execRts (s : State) : Result :=
  let r := popAddr s
  .next (spend Instr.rts.row.cycles (r.2.setPc (r.1 + 1#16)))

/-- `BPL label`: branch if plus (R267). -/
def execBpl (off : Byte) (s : State) : Result :=
  .next (runBranch (Instr.bpl off).row (!s.nFlag) off s)

/-- `BMI label`: branch if minus (R268). -/
def execBmi (off : Byte) (s : State) : Result :=
  .next (runBranch (Instr.bmi off).row s.nFlag off s)

/-- `BVC label`: branch if overflow clear (R269). -/
def execBvc (off : Byte) (s : State) : Result :=
  .next (runBranch (Instr.bvc off).row (!s.vFlag) off s)

/-- `BVS label`: branch if overflow set (R270). -/
def execBvs (off : Byte) (s : State) : Result :=
  .next (runBranch (Instr.bvs off).row s.vFlag off s)

/-- `BCC label`: branch if carry clear (R271). -/
def execBcc (off : Byte) (s : State) : Result :=
  .next (runBranch (Instr.bcc off).row (!s.cFlag) off s)

/-- `BCS label`: branch if carry set (R272). -/
def execBcs (off : Byte) (s : State) : Result :=
  .next (runBranch (Instr.bcs off).row s.cFlag off s)

/-- `BNE label`: branch if not equal (R273). -/
def execBne (off : Byte) (s : State) : Result :=
  .next (runBranch (Instr.bne off).row (!s.zFlag) off s)

/-- `BEQ label`: branch if equal (R274). -/
def execBeq (off : Byte) (s : State) : Result :=
  .next (runBranch (Instr.beq off).row s.zFlag off s)

/-- `BRK`: the software interrupt; the pushed PC is `pc0 + BRK_PUSH_OFFSET`, the 7 cycles are the entry's (R275). -/
def execBrk (s : State) : Result :=
  .next (interruptEntry Config.vecBrk true (s.setPc (s.pc + Config.brkPushOffset)))

/-- `RTI`: status, then PC, from the stack; nothing is added to the address (R276). -/
def execRti (s : State) : Result := .next (spend Instr.rti.row.cycles (interruptReturn s))

end Sys2Proof.Machine
end

