-- ==== Sys2Proof/Machine/FlagStack.lean ====
section
/-! DEFINITION. Flag instructions, stack instructions and NOP (43_flag_stack_ops.md R243 to R255). -/
namespace Sys2Proof.Machine

/-- `Push(A)` (R250). -/
def pushA (s : State) : State := push s.a s

/-- `resolveToP(); Push(PackedP(1))` (R251). -/
def pushStatus (s : State) : State := push (s.resolveToP.packedP true) s.resolveToP

/-- `v <- Pop(); A <- v; SetZN(v)` (R252). -/
def pullA (s : State) : State := loadA (pop s).1 (pop s).2

/-- `v <- Pop(); P <- (v & 0xEF) | 0x20; resolveFromP()` (R253). -/
def pullStatus (s : State) : State := (pop s).2.loadStatus (pop s).1

/-- `CLC`: clear Carry (R243). -/
def execClc (s : State) : Result :=
  .next (runImplied Instr.clc.row (State.setCr · false) s)

/-- `SEC`: set Carry (R244). -/
def execSec (s : State) : Result :=
  .next (runImplied Instr.sec.row (State.setCr · true) s)

/-- `CLI`: clear Interrupt-disable (R245). -/
def execCli (s : State) : Result :=
  .next (runImplied Instr.cli.row (State.setI · false) s)

/-- `SEI`: set Interrupt-disable (R246). -/
def execSei (s : State) : Result :=
  .next (runImplied Instr.sei.row (State.setI · true) s)

/-- `CLV`: clear Overflow (R247). -/
def execClv (s : State) : Result :=
  .next (runImplied Instr.clv.row (State.setV · false) s)

/-- `CLD`: clear Decimal (R248). -/
def execCld (s : State) : Result :=
  .next (runImplied Instr.cld.row (State.setD · false) s)

/-- `SED`: set Decimal (R249). -/
def execSed (s : State) : Result :=
  .next (runImplied Instr.sed.row (State.setD · true) s)

/-- `PHA`: push A (R250). -/
def execPha (s : State) : Result :=
  .next (runImplied Instr.pha.row pushA s)

/-- `PHP`: push status (R251). -/
def execPhp (s : State) : Result :=
  .next (runImplied Instr.php.row pushStatus s)

/-- `PLA`: pull A (R252). -/
def execPla (s : State) : Result :=
  .next (runImplied Instr.pla.row pullA s)

/-- `PLP`: pull status (R253). -/
def execPlp (s : State) : Result :=
  .next (runImplied Instr.plp.row pullStatus s)

/-- `NOP`: no operation (R254). -/
def execNop (s : State) : Result :=
  .next (runImplied Instr.nop.row id s)

end Sys2Proof.Machine
end

