-- ==== Sys2Proof/Machine/Load.lean ====
section
/-! DEFINITION. A program comes to the machine from outside, in the memory image the platform provides
(70_reset_and_hazards.md R352 a; log 12). This file places one instruction. -/
namespace Sys2Proof.Machine

/-- The platform with bytes stored at `a`, `a + 1`, ..., where the page pointers show them now. -/
def placeBytes (pl : Platform) (a : Addr) : List Byte → Platform
  | [] => pl
  | b :: bs => placeBytes (pl.poke a b) (a + 1#16) bs

/-- The platform whose fetch at `pc`, `pc + 1`, `pc + 2` reads the three bytes of `w`: stored there, and no device page
among the pages fetched from (log 13). -/
def placeProgram (s : State) (nbits w : Nat) : Platform :=
  let pl := placeBytes s.platform s.pc (bytesOfNat 3 (w % 2 ^ nbits))
  { pl with readIo := pl.readIo.filter (fun p =>
      !(decide (p = hi8 s.pc) || decide (p = hi8 (s.pc + 1#16)) || decide (p = hi8 (s.pc + 2#16)))) }

end Sys2Proof.Machine
end

