-- ==== Sys2Proof/Machine/Step.lean ====
section
/-! DEFINITION. One step of the core, `Step()` of 40_dispatch_addressing.md R130, and the placing of an instruction
where the next step fetches it. -/
namespace Sys2Proof.Machine

/-- `Step()` (R130): not enabled while halted (R152); three fetch reads; an opcode byte without a row raises
`IllegalOpcode` (60_exceptions.md R300), which sets the latch and is a next state (log 8); any other runs its
instruction. -/
def step (s : State) : Host.Outcome State Fault Refusal :=
  if s.halted then .fault .halted
  else
    match decode [(fetch s).1.1, (fetch s).1.2.1, (fetch s).1.2.2] with
    | .ok (i, _) => exec i (fetch s).2
    | .error _ => .next (raiseIllegalOpcode (fetch s).2)

/-- `s` with the instruction whose bits are `w` at `pc`, `pc + 1`, `pc + 2`, where the next step fetches it (log 12,
log 13). -/
def State.withFetchWord (s : State) (nbits w : Nat) : State := s.setPlatform (placeProgram s nbits w)

end Sys2Proof.Machine
end

