-- ==== Sys2Proof/Machine/Scheduler.lean ====
section
/-! DEFINITION. The Cycle Scheduler and the protocol around the core (60_exceptions.md R302 to R336): `IRQ()`, the NMI
service, `SchedulerStep()`, and the moves the caller and the collaborators have between scheduler steps. -/
namespace Sys2Proof.Machine

/-- `IRQ()`, the maskable hardware interrupt (R306): masked or halted, nothing happens and nothing is remembered. -/
def irq (s : State) : State :=
  if !s.iFlag && !s.halted then interruptEntry Config.vecIrq false s else s

/-- The NMI service (R307), after which the pending flag is cleared (R320, R323). -/
def serviceNmi (s : State) : State :=
  let t := interruptEntry Config.vecNmi false s
  t.setIface { t.iface with nmiPending := false }

/-- The boundary of a batch, sampled once at its start (R321). -/
def boundary (s : State) : Nat :=
  let b0 := s.iface.ppuClocks
  let b1 := if s.iface.irqClocks ≠ 0 then min b0 s.iface.irqClocks else b0
  if s.iface.nmiPending then min b1 (s.clocks + 7) else b1

/-- The loop of a batch, with at most `fuel` instructions (R322): it tests before each instruction. -/
def runBatch : Nat → State → Host.Outcome State Fault Refusal
  | 0, s => .next s
  | fuel + 1, s =>
    if s.clocks < s.nextStop ∧ s.halted = false then
      match step s with
      | .next t => runBatch fuel t
      | .fault r => .fault r
      | .refused r => .refused r
    else .next s

/-- The whole loop: every instruction that does not halt raises `clocks` or reaches `nextStop`, so `nextStop - clocks`
instructions are enough (R322, log 14). -/
def batchLoop (s : State) : Host.Outcome State Fault Refusal := runBatch (s.nextStop - s.clocks) s

/-- The end of a scheduler step (R323): a pending NMI is serviced unless the core has halted. -/
def endBatch (s : State) : State := if s.iface.nmiPending && !s.halted then serviceNmi s else s

/-- `SchedulerStep()` (R320). While the core is halted no state changes (R152, log 9). -/
def schedulerStep (s : State) : Host.Outcome State Fault Refusal :=
  if s.halted then .next s
  else
    match batchLoop (s.setNextStop (boundary s)) with
    | .next t => .next (endBatch t)
    | .fault r => .fault r
    | .refused r => .refused r

/-- What the caller and the collaborators may do at an instruction boundary between two batches (R325, R334). -/
inductive Move where
  /-- The caller invokes `SchedulerStep()`. -/
  | schedulerStep
  /-- Video `step()`: the video unit advances `ppuClocks` to `ppuClocks` and may request an NMI (R325 a, R326). -/
  | videoStep (ppuClocks : Nat) (requestNmi : Bool)
  /-- The mapper's IRQ trigger: it re-arms or clears `irqClocks`, and `IRQ()` is invoked (R325 b, R327). -/
  | mapperIrq (irqClocks : Nat)
  /-- The mapper repoints page `page` to storage page `target` (R325 c, R61). -/
  | repoint (page : Byte) (target : Nat)
  /-- Other changes of the platform: storage and collaborator registers (R325 c). -/
  | platformChange (c : PlatformChange)
  /-- The caller invokes `Reset()` (R325 d, R350). -/
  | reset
  deriving DecidableEq, Repr

/-- One move (R325). A collaborator's move outside its condition does not exist and is refused by name (log 15); so is
a repointing of page 0 or page `STACK_PAGE` away from `RAM` (20_memory.md R64, 70_reset_and_hazards.md R362; log 5). -/
def move (m : Move) (s : State) : Host.Outcome State Fault Refusal :=
  match m with
  | .schedulerStep => schedulerStep s
  | .videoStep ppu req =>
    if s.iface.ppuClocks ≤ s.clocks ∧ s.iface.ppuClocks < ppu then
      .next (s.setIface { s.iface with ppuClocks := ppu, nmiPending := s.iface.nmiPending || req })
    else .refused .moveNotEnabled
  | .mapperIrq irqAt =>
    if s.iface.irqClocks ≠ 0 ∧ s.iface.irqClocks ≤ s.clocks then
      .next (irq (s.setIface { s.iface with irqClocks := irqAt }))
    else .refused .moveNotEnabled
  | .repoint page target =>
    if h : isRamPage page = false then .next (s.setPlatform (s.platform.repoint ⟨page, h⟩ target))
    else .refused .ramPageRepointed
  | .platformChange c => .next (s.setPlatform (s.platform.apply c))
  | .reset => .next (resetCore s)

/-- A run of the machine: the moves the caller chooses, in order (R334). It is faulted when `halted` becomes 1, whatever the
caller does afterwards (R300, R334, D22); a run may begin with the `Reset()` of a halted core. -/
def runMoves : List Move → State → Host.Outcome State Fault Refusal
  | [], s => .next s
  | m :: ms, s =>
    match move m s with
    | .next t => if t.halted then .fault .halted else runMoves ms t
    | .fault r => .fault r
    | .refused r => .refused r

end Sys2Proof.Machine
end

