-- ==== Sys2Proof/Safety.lean ====
section
/-! DEFINITION. What counts as a safe run, the invariant of the state, and the terms the claims use: the cost and
length of each operand form as 70_reset_and_hazards.md R366 and 30_encoding.md R101 tabulate them (written here a
second time, apart from the rows of `Instr.row`), and the operand forms of each class. -/
namespace Sys2Proof.Machine

/-- A safe state: the fault latch is clear (60_exceptions.md R300: the halted state "is never a final state of a correct
run"). -/
def State.Safe (s : State) : Prop := s.halted = false

/-- A safe run of the caller's moves: every move of it is one the protocol has, and the core halts at no point of it, a
later `Reset()` notwithstanding (R334, D22: a run that halts is faulted). -/
def SafeRun (ms : List Move) (s : State) : Prop := ∃ t, runMoves ms s = .next t ∧ t.Safe

/-- What the caller owes before a scheduler step if instructions are to run: both armed thresholds lie ahead (R325,
10_state.md R39). -/
def CallerReady (s : State) : Prop :=
  s.clocks < s.iface.ppuClocks ∧ (s.iface.irqClocks ≠ 0 → s.clocks < s.iface.irqClocks)

/-- The invariant of every state reachable from reset: storage and page pointers in canonical form, the stored Break
bit clear and the reserved bit set (10_state.md R32). -/
structure State.Inv (s : State) : Prop where
  platform_wf : s.platform.wf = true
  break_clear : s.bFlag = false
  reserved_set : s.rFlag = true

/-- The three fetch reads at `pc`, `pc + 1`, `pc + 2` are from side-effect-free pages (20_memory.md R66, R67). -/
structure FetchPlain (s : State) : Prop where
  page0 : s.platform.sideEffectFree (hi8 s.pc) = true
  page1 : s.platform.sideEffectFree (hi8 (s.pc + 1#16)) = true
  page2 : s.platform.sideEffectFree (hi8 (s.pc + 2#16)) = true

/-- `v` is the status byte that is pushed for `s` with Break `b`: N V 1 b D I Z C (10_state.md R29, R30). -/
structure IsPackedStatus (v : Byte) (s : State) (b : Bool) : Prop where
  negative : v.getLsbD 7 = s.nFlag
  overflow : v.getLsbD 6 = s.vFlag
  reserved : v.getLsbD 5 = true
  break_bit : v.getLsbD 4 = b
  decimal : v.getLsbD 3 = s.dFlag
  interrupt : v.getLsbD 2 = s.iFlag
  zero : v.getLsbD 1 = s.zFlag
  carry : v.getLsbD 0 = s.cFlag

/-- The live flags of `t` are those of `s` (10_state.md R25 to R28). -/
structure SameFlags (t s : State) : Prop where
  negative : t.nFlag = s.nFlag
  overflow : t.vFlag = s.vFlag
  decimal : t.dFlag = s.dFlag
  interrupt : t.iFlag = s.iFlag
  zero : t.zFlag = s.zFlag
  carry : t.cFlag = s.cFlag

/-- The live flags of `t` are the bits of a popped status byte (10_state.md R29, R32). -/
structure FlagsFrom (t : State) (v : Byte) : Prop where
  negative : t.nFlag = v.getLsbD 7
  overflow : t.vFlag = v.getLsbD 6
  decimal : t.dFlag = v.getLsbD 3
  interrupt : t.iFlag = v.getLsbD 2
  zero : t.zFlag = v.getLsbD 1
  carry : t.cFlag = v.getLsbD 0

/-- The 105 opcode bytes without a row in `OPTABLE`, as 30_encoding.md R116 lists them. -/
def illegalOpcodes : List Byte :=
  [0x02#8, 0x03#8, 0x04#8, 0x07#8, 0x0B#8, 0x0C#8, 0x0F#8, 0x12#8, 0x13#8, 0x14#8, 0x17#8, 0x1A#8, 0x1B#8, 0x1C#8, 0x1F#8] ++
  [0x22#8, 0x23#8, 0x27#8, 0x2B#8, 0x2F#8, 0x32#8, 0x33#8, 0x34#8, 0x37#8, 0x3A#8, 0x3B#8, 0x3C#8, 0x3F#8, 0x42#8, 0x43#8] ++
  [0x44#8, 0x47#8, 0x4B#8, 0x4F#8, 0x52#8, 0x53#8, 0x54#8, 0x57#8, 0x5A#8, 0x5B#8, 0x5C#8, 0x5F#8, 0x62#8, 0x63#8, 0x64#8] ++
  [0x67#8, 0x6B#8, 0x6F#8, 0x72#8, 0x73#8, 0x74#8, 0x77#8, 0x7A#8, 0x7B#8, 0x7C#8, 0x7F#8, 0x80#8, 0x82#8, 0x83#8, 0x87#8] ++
  [0x89#8, 0x8B#8, 0x8F#8, 0x92#8, 0x93#8, 0x97#8, 0x9B#8, 0x9C#8, 0x9E#8, 0x9F#8, 0xA3#8, 0xA7#8, 0xAB#8, 0xAF#8, 0xB2#8] ++
  [0xB3#8, 0xB7#8, 0xBB#8, 0xBF#8, 0xC2#8, 0xC3#8, 0xC7#8, 0xCB#8, 0xCF#8, 0xD2#8, 0xD3#8, 0xD4#8, 0xD7#8, 0xDA#8, 0xDB#8] ++
  [0xDC#8, 0xDF#8, 0xE2#8, 0xE3#8, 0xE7#8, 0xEB#8, 0xEF#8, 0xF2#8, 0xF3#8, 0xF4#8, 0xF7#8, 0xFA#8, 0xFB#8, 0xFC#8, 0xFF#8]

/-- Length in bytes of an instruction with this memory operand (R101). -/
def memLength : MemOperand → Nat
  | .zp _ => 2
  | .zpx _ => 2
  | .zpy _ => 2
  | .abs _ => 3
  | .abx _ => 3
  | .aby _ => 3
  | .izx _ => 2
  | .izy _ => 2

/-- Length in bytes of a class read instruction (R101). -/
def readLength : ReadOperand → Nat
  | .imm _ => 2
  | .mem o => memLength o

/-- The page-cross cycle `p` of R366 and R367. -/
def crossCycle (o : MemOperand) (s : State) : Nat := if o.cross s then 1 else 0

/-- Cycles of a class read instruction (R366, row `read`). -/
def readCycles (o : ReadOperand) (s : State) : Nat :=
  match o with
  | .imm _ => 2
  | .mem (.zp _) => 3
  | .mem (.zpx _) => 4
  | .mem (.zpy _) => 4
  | .mem (.abs _) => 4
  | .mem (.abx w) => 4 + crossCycle (.abx w) s
  | .mem (.aby w) => 4 + crossCycle (.aby w) s
  | .mem (.izx _) => 6
  | .mem (.izy z) => 5 + crossCycle (.izy z) s

/-- Cycles of a class store instruction (R366, row `store`): fixed. -/
def storeCycles : MemOperand → Nat
  | .zp _ => 3
  | .zpx _ => 4
  | .zpy _ => 4
  | .abs _ => 4
  | .abx _ => 5
  | .aby _ => 5
  | .izx _ => 6
  | .izy _ => 6

/-- `P` holds of the eight forms of a class read instruction: IMM, ZP, ZPX, ABS, ABX, ABY, IZX, IZY. -/
def EightReadForms (imm zp zpx : Byte → Instr) (abs abx aby : Addr → Instr) (izx izy : Byte → Instr)
    (P : Instr → ReadOperand → Prop) : Prop :=
  (∀ v, P (imm v) (.imm v)) ∧ (∀ z, P (zp z) (.mem (.zp z))) ∧ (∀ z, P (zpx z) (.mem (.zpx z))) ∧
  (∀ w, P (abs w) (.mem (.abs w))) ∧ (∀ w, P (abx w) (.mem (.abx w))) ∧ (∀ w, P (aby w) (.mem (.aby w))) ∧
  (∀ z, P (izx z) (.mem (.izx z))) ∧ (∀ z, P (izy z) (.mem (.izy z)))

/-- `P` holds of the five forms of LDX: IMM, ZP, ZPY, ABS, ABY. -/
def LdxForms (P : Instr → ReadOperand → Prop) : Prop :=
  (∀ v, P (.ldxImm v) (.imm v)) ∧ (∀ z, P (.ldxZp z) (.mem (.zp z))) ∧ (∀ z, P (.ldxZpy z) (.mem (.zpy z))) ∧
  (∀ w, P (.ldxAbs w) (.mem (.abs w))) ∧ (∀ w, P (.ldxAby w) (.mem (.aby w)))

/-- `P` holds of the five forms of LDY: IMM, ZP, ZPX, ABS, ABX. -/
def LdyForms (P : Instr → ReadOperand → Prop) : Prop :=
  (∀ v, P (.ldyImm v) (.imm v)) ∧ (∀ z, P (.ldyZp z) (.mem (.zp z))) ∧ (∀ z, P (.ldyZpx z) (.mem (.zpx z))) ∧
  (∀ w, P (.ldyAbs w) (.mem (.abs w))) ∧ (∀ w, P (.ldyAbx w) (.mem (.abx w)))

/-- `P` holds of the seven forms of STA: ZP, ZPX, ABS, ABX, ABY, IZX, IZY. -/
def StaForms (P : Instr → MemOperand → Prop) : Prop :=
  (∀ z, P (.staZp z) (.zp z)) ∧ (∀ z, P (.staZpx z) (.zpx z)) ∧ (∀ w, P (.staAbs w) (.abs w)) ∧
  (∀ w, P (.staAbx w) (.abx w)) ∧ (∀ w, P (.staAby w) (.aby w)) ∧ (∀ z, P (.staIzx z) (.izx z)) ∧
  (∀ z, P (.staIzy z) (.izy z))

/-- `P` holds of the three forms of STX: ZP, ZPY, ABS. -/
def StxForms (P : Instr → MemOperand → Prop) : Prop :=
  (∀ z, P (.stxZp z) (.zp z)) ∧ (∀ z, P (.stxZpy z) (.zpy z)) ∧ (∀ w, P (.stxAbs w) (.abs w))

/-- `P` holds of the three forms of STY: ZP, ZPX, ABS. -/
def StyForms (P : Instr → MemOperand → Prop) : Prop :=
  (∀ z, P (.styZp z) (.zp z)) ∧ (∀ z, P (.styZpx z) (.zpx z)) ∧ (∀ w, P (.styAbs w) (.abs w))

/-- `P` holds of the two forms of BIT: ZP, ABS. -/
def BitForms (P : Instr → ReadOperand → Prop) : Prop :=
  (∀ z, P (.bitZp z) (.mem (.zp z))) ∧ (∀ w, P (.bitAbs w) (.mem (.abs w)))

/-- `P` holds of the three forms of CPX and CPY: IMM, ZP, ABS. -/
def ThreeReadForms (imm zp : Byte → Instr) (abs : Addr → Instr) (P : Instr → ReadOperand → Prop) : Prop :=
  (∀ v, P (imm v) (.imm v)) ∧ (∀ z, P (zp z) (.mem (.zp z))) ∧ (∀ w, P (abs w) (.mem (.abs w)))

/-- `P` holds of the four memory forms of a class rmw instruction, with their fixed cycles (R366, row `rmw`): ZP 5,
ZPX 6, ABS 6, ABX 7. -/
def FourRmwForms (zp zpx : Byte → Instr) (abs abx : Addr → Instr) (P : Instr → MemOperand → Nat → Prop) : Prop :=
  (∀ z, P (zp z) (.zp z) 5) ∧ (∀ z, P (zpx z) (.zpx z) 6) ∧ (∀ w, P (abs w) (.abs w) 6) ∧
  (∀ w, P (abx w) (.abx w) 7)

/-- The memory operand of an instruction, where its mode has one (30_encoding.md R104). -/
def memOperandOf : Operand → Option MemOperand
  | .imp => none
  | .imm _ => none
  | .zp z => some (.zp z)
  | .zpx z => some (.zpx z)
  | .zpy z => some (.zpy z)
  | .abs w => some (.abs w)
  | .abx w => some (.abx w)
  | .aby w => some (.aby w)
  | .ind _ => none
  | .izx z => some (.izx z)
  | .izy z => some (.izy z)
  | .rel _ => none

/-- The register a store instruction stores (41_load_store_transfer.md R173 to R175). -/
def storedRegister (m : Mnemonic) (s : State) : Option Byte :=
  if m = .sta then some s.a else if m = .stx then some s.x else if m = .sty then some s.y else none

/-- What a conditional branch on `cond` does (44_control.md R266): taken, PC is `pc0 + 2 + offset` with the offset signed,
at 3 cycles or 4 across a page; not taken, PC is `pc0 + 2` at 2 cycles; nothing else changes. -/
def BranchesOn (cond : Bool) (i : Instr) (off : Byte) (s : State) : Prop :=
  ∃ t, exec i s = .next t ∧ t = { s with pc := t.pc, clocks := t.clocks } ∧
    (cond = true → (t.pc.toNat : Int) = ((s.pc.toNat : Int) + 2 + off.toInt) % 65536 ∧
      t.clocks = s.clocks + (if hi8 t.pc = hi8 (s.pc + 2#16) then 3 else 4)) ∧
    (cond = false → t.pc = s.pc + 2#16 ∧ t.clocks = s.clocks + 2)

/-- What a shift on the accumulator does: the result `r`, the Carry `c`, Zero and Negative from the result, PC + 1, 2
cycles, nothing else (42_arith_logic.md R224). -/
def ShiftsAccumulator (i : Instr) (s : State) (r : Nat) (c : Bool) : Prop :=
  ∃ t, exec i s = .next t ∧
    t = { s with a := t.a, zr := t.zr, nr := t.nr, cr := c, pc := s.pc + 1#16, clocks := s.clocks + 2 } ∧
    t.a.toNat = r ∧ t.zFlag = (t.a == 0x00#8) ∧ t.nFlag = t.a.getLsbD 7

/-- What a shift on memory does: one read, the result `r` of the byte read, one write at the same effective address, the
Carry `c`, Zero and Negative from the result (42_arith_logic.md R224). -/
def ShiftsMemory (i : Instr) (o : MemOperand) (cyc : Nat) (s : State) (r : Byte → Nat) (c : Byte → Bool) : Prop :=
  ∃ (t : State) (v : Byte), exec i s = .next t ∧ v.toNat = r (readMem o s).1 ∧
    t = { writeAt o.fast (o.ea s) v (readMem o s).2 with
          zr := t.zr, nr := t.nr, cr := c (readMem o s).1,
          pc := s.pc + BitVec.ofNat 16 (memLength o), clocks := s.clocks + cyc } ∧
    t.zFlag = (v == 0x00#8) ∧ t.nFlag = v.getLsbD 7

/-- What a flag instruction does: bit `j` of `P` becomes `v`, every other bit of `P` and everything else stays, PC + 1, 2
cycles (43_flag_stack_ops.md R245 to R249). -/
def WritesStatusBit (i : Instr) (j : Nat) (v : Bool) (s : State) : Prop :=
  ∃ t, exec i s = .next t ∧ t = { s with p := t.p, pc := s.pc + 1#16, clocks := s.clocks + 2 } ∧
    ∀ k, t.p.getLsbD k = if k = j then v else s.p.getLsbD k

/-- Push the bytes of a list in order (43_flag_stack_ops.md R242). -/
def pushAll : List Byte → State → State
  | [], s => s
  | v :: vs, s => pushAll vs (push v s)

end Sys2Proof.Machine
end

