-- ==== Sys2Proof/Certificates/Slice0/Obligations.lean ====
section
/-! DEFINITION. The statements for the provers. Each docstring names the rule or the section of spec/ it formalises;
where a statement rests on a decision the spec marks as its own (D<n> of 92_eei_decisions.md) or on a choice of the
model (log <n>), it says so. -/
open Sys2Proof Sys2Proof.Machine

/-- 30_encoding.md sections 1, 2 and 4 (the opcode bytes are the spec's decision D2): decoding the encoding of any
instruction, with anything after it, gives that instruction and the rest. -/
def Obligations.DecodeAfterEncode : Prop :=
  ∀ (i : Instr) (rest : List Byte), decode (encode i ++ rest) = .ok (i, rest)

/-- 30_encoding.md sections 1, 2 and 4: whatever the decoder reads is spelled by exactly one byte sequence, the one the
encoder gives: no bit is ignored and no byte has two meanings. -/
def Obligations.EncodeAfterDecode : Prop :=
  ∀ (bs : List Byte) (i : Instr) (rest : List Byte), decode bs = .ok (i, rest) → encode i ++ rest = bs

/-- 30_encoding.md R116 and 60_exceptions.md R300: exactly the 105 listed opcode bytes are rejected, and fetching one
sets the latch and does nothing else but the three fetch reads (that it is a next state is the model's reading, log 8). -/
def Obligations.IllegalOpcodesHalt : Prop :=
  (illegalOpcodes.length = 105 ∧ illegalOpcodes.Nodup) ∧
  (∀ b0 b1 b2 : Byte, b0 ∈ illegalOpcodes ↔ decode [b0, b1, b2] = .error (.illegalOpcode b0)) ∧
  (∀ s : State, s.halted = false → (fetch s).1.1 ∈ illegalOpcodes →
    step s = .next { (fetch s).2 with halted := true }) ∧
  (∀ s : State, s.halted = false → FetchPlain s → s.platform.peek s.pc ∈ illegalOpcodes →
    step s = .next { s with halted := true })

/-- 30_encoding.md R101, R103, R110: words written out from the table, one for each family, decode to the instruction
they stand for. -/
def Obligations.OpcodeWordsDecode : Prop :=
  decodeTableWord 24 0x1234BD = some (.ldaAbx 0x1234#16) ∧
  decodeTableWord 16 0x1091 = some (.staIzy 0x10#8) ∧
  decodeTableWord 8 0x9A = some .txs ∧
  decodeTableWord 16 0x5069 = some (.adcImm 0x50#8) ∧
  decodeTableWord 16 0xF0B6 = some (.ldxZpy 0xF0#8) ∧
  decodeTableWord 8 0x6A = some .rorAcc ∧
  decodeTableWord 8 0x08 = some .php ∧
  decodeTableWord 24 0x30FF6C = some (.jmpInd 0x30FF#16) ∧
  decodeTableWord 24 0x900020 = some (.jsr 0x9000#16) ∧
  decodeTableWord 16 0xFBD0 = some (.bne 0xFB#8) ∧
  decodeTableWord 8 0x00 = some .brk ∧
  decodeTableWord 8 0x02 = none

/-- 40_dispatch_addressing.md section 1 (`Step()`): when the three bytes fetched at PC decode to an instruction, the step
is that instruction's meaning, run on the state the fetch leaves; the fetch is three reads, at PC, PC + 1 and PC + 2 in this
order, each on the state the one before leaves, whatever the instruction's length (20_memory.md R66; decision D16); it leaves
the state itself when the three pages are side-effect-free. -/
def Obligations.StepRunsDecodedInstruction : Prop :=
  (∀ (s : State) (i : Instr) (rest : List Byte), s.halted = false →
    decode [(fetch s).1.1, (fetch s).1.2.1, (fetch s).1.2.2] = .ok (i, rest) → step s = exec i (fetch s).2) ∧
  (∀ (s : State) (i : Instr) (rest : List Byte), s.halted = false → FetchPlain s →
    decode [s.platform.peek s.pc, s.platform.peek (s.pc + 1#16), s.platform.peek (s.pc + 2#16)] = .ok (i, rest) →
    step s = exec i s) ∧
  (∀ s : State, ∃ r0 r1 r2 : Byte × State,
    r0 = memRead s.pc s ∧ r1 = memRead (s.pc + 1#16) r0.2 ∧ r2 = memRead (s.pc + 2#16) r1.2 ∧
    fetch s = ((r0.1, r1.1, r2.1), r2.2))

/-- 40_dispatch_addressing.md R152 (decision D22): while halted the core has no step, `IRQ()` and `SchedulerStep()` change
nothing (the latter is the model's reading, log 9), no move but `Reset()` changes a field of the core, and `Reset()` clears
the latch. 60_exceptions.md R334 (decision D22): a run is faulted when `halted` becomes 1 and is then no safe run, whatever
moves follow, a reset among them; a run that completes from a core that is not halted has not halted. -/
def Obligations.HaltedCoreOnlyLeavesByReset : Prop :=
  (∀ s : State, s.halted = true →
    step s = .fault .halted ∧ irq s = s ∧ schedulerStep s = .next s ∧ (resetCore s).halted = false) ∧
  (∀ (m : Move) (s t : State), s.halted = true → m ≠ .reset → move m s = .next t →
    t = { s with platform := t.platform, iface := t.iface }) ∧
  (∀ (before after : List Move) (m : Move) (s u t : State), runMoves before s = .next u → move m u = .next t →
    t.halted = true → runMoves (before ++ m :: after) s = .fault .halted ∧ ¬ SafeRun (before ++ m :: after) s) ∧
  (∀ (ms : List Move) (s t : State), s.halted = false → runMoves ms s = .next t → t.halted = false)

/-- Log 12 and log 13 (the model's own): an instruction placed where the next step fetches is the one the next step
runs, from every state that is not halted. -/
def Obligations.PlacedInstructionRuns : Prop :=
  ∀ (s : State) (nbits w : Nat) (i : Instr), s.halted = false → decodeTableWord nbits w = some i →
    step (s.withFetchWord nbits w) = exec i (s.withFetchWord nbits w)

/-- 40_dispatch_addressing.md R151: every instruction completes from every state; and every step of a core that is not halted
has a next state, where that an illegal opcode's step is a next state (with the latch set) and not a fault is the model's
reading of R300 (log 8). -/
def Obligations.StepIsTotal : Prop :=
  (∀ (i : Instr) (s : State), ∃ t, exec i s = .next t) ∧
  (∀ s : State, s.halted = false → ∃ t, step s = .next t)

/-- 20_memory.md sections 1 and 5: at plain pages a bus read gives the byte last written to that storage, the write
reaches no other storage, and the read changes nothing. -/
def Obligations.BusReadAfterBusWrite : Prop :=
  ∀ (s : State) (a b : Addr) (v : Byte),
    s.platform.plainWrite (hi8 a) = true → s.platform.sideEffectFree (hi8 b) = true →
    (memRead b (memWrite a v s)).2 = memWrite a v s ∧
    (s.platform.locate b = s.platform.locate a → (memRead b (memWrite a v s)).1 = v) ∧
    (s.platform.locate b ≠ s.platform.locate a → (memRead b (memWrite a v s)).1 = (memRead b s).1)

/-- 20_memory.md R64 and R67 (decision D28): in pages 0 and `STACK_PAGE` the bus and the fast path are two views of the
same `RAM`, and everywhere `Fetch` and `MemRead` agree. -/
def Obligations.FastPathAgreesWithBus : Prop :=
  (∀ (s : State) (o v : Byte),
    memRead (zpAddr o) s = (zpRead o s, s) ∧ memWrite (zpAddr o) v s = zpWrite o v s ∧
    memRead (stackAddr o) s = (stackRead o s, s) ∧ memWrite (stackAddr o) v s = stackWrite o v s ∧
    (zpAddr o).toNat = o.toNat ∧ (stackAddr o).toNat = 256 + o.toNat) ∧
  (∀ (s : State) (a : Addr), fetchByte a s = memRead a s)

/-- Log 2 (the model's own form of storage): two canonical storages that read alike at every address are the same list. -/
def Obligations.CanonicalStorageIsExtensional : Prop :=
  ∀ m m' : Memory, Memory.wf m = true → Memory.wf m' = true →
    (∀ k, Memory.read m k = Memory.read m' k) → m = m'

/-- 20_memory.md R70: the byte at the vector address is bits 7..0 of the target, the next byte bits 15..8. On any page they are
two bus reads, low address first, the second on the state the first leaves (R72, decision D29); on a side-effect-free page
they change nothing. -/
def Obligations.VectorsAreLittleEndian : Prop :=
  ∀ (s : State) (a : Addr), a = Config.vecNmi ∨ a = Config.vecReset ∨ a = Config.vecIrq ∨ a = Config.vecBrk →
    (memRead2 a s).1.toNat = (memRead a s).1.toNat + 256 * (memRead (a + 1#16) (memRead a s).2).1.toNat ∧
    (memRead2 a s).2 = (memRead (a + 1#16) (memRead a s).2).2 ∧
    (s.platform.sideEffectFree (hi8 a) = true →
      (memRead2 a s).1.toNat = (s.platform.peek a).toNat + 256 * (s.platform.peek (a + 1#16)).toNat ∧
      (memRead2 a s).2 = s)

/-- 40_dispatch_addressing.md section 3 (the zero-page wraps are decision D11): the effective address of every memory mode
as arithmetic. -/
def Obligations.EffectiveAddresses : Prop :=
  ∀ (s : State) (z : Byte) (w : Addr),
    ((MemOperand.zp z).ea s).toNat = z.toNat ∧
    ((MemOperand.zpx z).ea s).toNat = (z.toNat + s.x.toNat) % 256 ∧
    ((MemOperand.zpy z).ea s).toNat = (z.toNat + s.y.toNat) % 256 ∧
    (MemOperand.abs w).ea s = w ∧
    ((MemOperand.abx w).ea s).toNat = (w.toNat + s.x.toNat) % 65536 ∧
    ((MemOperand.aby w).ea s).toNat = (w.toNat + s.y.toNat) % 65536 ∧
    ((MemOperand.izx z).ea s).toNat =
      (Memory.read s.platform.store ((z.toNat + s.x.toNat) % 256)).toNat +
        256 * (Memory.read s.platform.store ((z.toNat + s.x.toNat + 1) % 256)).toNat ∧
    ((MemOperand.izy z).ea s).toNat =
      ((Memory.read s.platform.store z.toNat).toNat +
        256 * (Memory.read s.platform.store ((z.toNat + 1) % 256)).toNat + s.y.toNat) % 65536

/-- 40_dispatch_addressing.md R145: in modes ABX, ABY and IZY `cross` is the carry out of the low byte, equivalently a change
of the high byte, the wrap at the top of the space included; in every other mode it is false. -/
def Obligations.PageCrossIsLowByteCarry : Prop :=
  (∀ (s : State) (w : Addr),
    ((MemOperand.abx w).cross s = true ↔ 0xFF < (lo8 w).toNat + s.x.toNat) ∧
    ((MemOperand.abx w).cross s = true ↔ hi8 w ≠ hi8 ((MemOperand.abx w).ea s)) ∧
    ((MemOperand.aby w).cross s = true ↔ 0xFF < (lo8 w).toNat + s.y.toNat) ∧
    ((MemOperand.aby w).cross s = true ↔ hi8 w ≠ hi8 ((MemOperand.aby w).ea s)) ∧
    (MemOperand.abs w).cross s = false) ∧
  (∀ (s : State) (z : Byte),
    ((MemOperand.izy z).cross s = true ↔ 0xFF < (zpRead z s).toNat + s.y.toNat) ∧
    ((MemOperand.izy z).cross s = true ↔
      hi8 (cat (zpRead (z + 1#8) s) (zpRead z s)) ≠ hi8 ((MemOperand.izy z).ea s)) ∧
    (MemOperand.zp z).cross s = false ∧ (MemOperand.zpx z).cross s = false ∧
    (MemOperand.zpy z).cross s = false ∧ (MemOperand.izx z).cross s = false ∧
    (ReadOperand.imm z).cross s = false)

/-- 40_dispatch_addressing.md R146: an immediate is its own operand, zero-page modes take the fast path, the other memory
modes make exactly one bus read at the final effective address; where that page is side-effect-free nothing changes. -/
def Obligations.OperandAccess : Prop :=
  ∀ (s : State),
    (∀ v, readOperand (.imm v) s = (v, s)) ∧
    (∀ z, readOperand (.mem (.zp z)) s = (zpRead z s, s)) ∧
    (∀ z, readOperand (.mem (.zpx z)) s = (zpRead (z + s.x) s, s)) ∧
    (∀ z, readOperand (.mem (.zpy z)) s = (zpRead (z + s.y) s, s)) ∧
    (∀ o : MemOperand, o.fast = false → readOperand (.mem o) s = memRead (o.ea s) s) ∧
    (∀ o : MemOperand, s.platform.sideEffectFree (hi8 (o.ea s)) = true →
      readOperand (.mem o) s = (s.platform.peek (o.ea s), s))

/-- 41_load_store_transfer.md R170, R171, R172: LDA, LDX and LDY in every form: the register takes the operand, Zero and
Negative follow it, PC and `clocks` advance, and nothing else changes but what the operand's bus read changes. -/
def Obligations.LoadsWriteRegisterZeroNegative : Prop :=
  (∀ s : State, EightReadForms .ldaImm .ldaZp .ldaZpx .ldaAbs .ldaAbx .ldaAby .ldaIzx .ldaIzy fun i o =>
    ∃ t, exec i s = .next t ∧
      t = { (readOperand o s).2 with
            a := (readOperand o s).1, zr := t.zr, nr := t.nr,
            pc := s.pc + BitVec.ofNat 16 (readLength o), clocks := s.clocks + readCycles o s } ∧
      t.zFlag = ((readOperand o s).1 == 0x00#8) ∧ t.nFlag = (readOperand o s).1.getLsbD 7) ∧
  (∀ s : State, LdxForms fun i o =>
    ∃ t, exec i s = .next t ∧
      t = { (readOperand o s).2 with
            x := (readOperand o s).1, zr := t.zr, nr := t.nr,
            pc := s.pc + BitVec.ofNat 16 (readLength o), clocks := s.clocks + readCycles o s } ∧
      t.zFlag = ((readOperand o s).1 == 0x00#8) ∧ t.nFlag = (readOperand o s).1.getLsbD 7) ∧
  (∀ s : State, LdyForms fun i o =>
    ∃ t, exec i s = .next t ∧
      t = { (readOperand o s).2 with
            y := (readOperand o s).1, zr := t.zr, nr := t.nr,
            pc := s.pc + BitVec.ofNat 16 (readLength o), clocks := s.clocks + readCycles o s } ∧
      t.zFlag = ((readOperand o s).1 == 0x00#8) ∧ t.nFlag = (readOperand o s).1.getLsbD 7)

/-- 41_load_store_transfer.md R173 to R176 (decisions D14, D25): STA, STX and STY in every form: zero-page forms write by the
fast path with no read, the others make one bus read at the effective address and then the bus write at the same
address; PC and `clocks` advance, and no register and no flag changes. -/
def Obligations.StoresMakeDummyReadThenWrite : Prop :=
  (∀ s : State, StaForms fun i o =>
    exec i s = .next
      { (if o.fast then zpWrite (lo8 (o.ea s)) s.a s else memWrite (o.ea s) s.a (memRead (o.ea s) s).2) with
        pc := s.pc + BitVec.ofNat 16 (memLength o), clocks := s.clocks + storeCycles o }) ∧
  (∀ s : State, StxForms fun i o =>
    exec i s = .next
      { (if o.fast then zpWrite (lo8 (o.ea s)) s.x s else memWrite (o.ea s) s.x (memRead (o.ea s) s).2) with
        pc := s.pc + BitVec.ofNat 16 (memLength o), clocks := s.clocks + storeCycles o }) ∧
  (∀ s : State, StyForms fun i o =>
    exec i s = .next
      { (if o.fast then zpWrite (lo8 (o.ea s)) s.y s else memWrite (o.ea s) s.y (memRead (o.ea s) s).2) with
        pc := s.pc + BitVec.ofNat 16 (memLength o), clocks := s.clocks + storeCycles o })

/-- 41_load_store_transfer.md sections 2, 20_memory.md section 1 (decision D25): a store to a plain page puts its register at
the effective address and leaves every byte of other storage, every register but PC and every flag unchanged. -/
def Obligations.StoresWriteOnlyTheirByte : Prop :=
  ∀ (i : Instr) (o : MemOperand) (v : Byte) (s : State),
    i.row.cls = .store → memOperandOf i.operand = some o → storedRegister i.row.mnemonic s = some v →
    s.platform.sideEffectFree (hi8 (o.ea s)) = true → s.platform.plainWrite (hi8 (o.ea s)) = true →
    ∃ t, exec i s = .next t ∧ t.platform.peek (o.ea s) = v ∧
      (∀ b : Addr, s.platform.locate b ≠ s.platform.locate (o.ea s) → t.platform.peek b = s.platform.peek b) ∧
      t.a = s.a ∧ t.x = s.x ∧ t.y = s.y ∧ t.sp = s.sp ∧ t.p = s.p ∧ SameFlags t s ∧ t.iface = s.iface

/-- 41_load_store_transfer.md R177 to R181: TAX, TAY, TXA, TYA, TSX move a register, and Zero and Negative follow the value
moved; PC + 1, 2 cycles, nothing else changes. -/
def Obligations.TransfersWriteZeroNegative : Prop :=
  ∀ s : State,
    (∃ t, exec .tax s = .next t ∧
      t = { s with x := s.a, zr := t.zr, nr := t.nr, pc := s.pc + 1#16, clocks := s.clocks + 2 } ∧
      t.zFlag = (s.a == 0x00#8) ∧ t.nFlag = s.a.getLsbD 7) ∧
    (∃ t, exec .tay s = .next t ∧
      t = { s with y := s.a, zr := t.zr, nr := t.nr, pc := s.pc + 1#16, clocks := s.clocks + 2 } ∧
      t.zFlag = (s.a == 0x00#8) ∧ t.nFlag = s.a.getLsbD 7) ∧
    (∃ t, exec .txa s = .next t ∧
      t = { s with a := s.x, zr := t.zr, nr := t.nr, pc := s.pc + 1#16, clocks := s.clocks + 2 } ∧
      t.zFlag = (s.x == 0x00#8) ∧ t.nFlag = s.x.getLsbD 7) ∧
    (∃ t, exec .tya s = .next t ∧
      t = { s with a := s.y, zr := t.zr, nr := t.nr, pc := s.pc + 1#16, clocks := s.clocks + 2 } ∧
      t.zFlag = (s.y == 0x00#8) ∧ t.nFlag = s.y.getLsbD 7) ∧
    (∃ t, exec .tsx s = .next t ∧
      t = { s with x := s.sp, zr := t.zr, nr := t.nr, pc := s.pc + 1#16, clocks := s.clocks + 2 } ∧
      t.zFlag = (s.sp == 0x00#8) ∧ t.nFlag = s.sp.getLsbD 7)

/-- 42_arith_logic.md R202, R204: ADC in every form: the sum A + M + C modulo 256, Carry its bit 8, Overflow when A and M
agree in sign and the result does not, Zero and Negative from the result; Decimal has no part in it; nothing else
changes but PC, `clocks` and what the operand's bus read changes. -/
def Obligations.AdcAddsWithCarry : Prop :=
  ∀ s : State, EightReadForms .adcImm .adcZp .adcZpx .adcAbs .adcAbx .adcAby .adcIzx .adcIzy fun i o =>
    ∃ t, exec i s = .next t ∧
      t = { (readOperand o s).2 with
            a := t.a, zr := t.zr, nr := t.nr, cr := t.cr, p := setBit s.p bitV t.vFlag,
            pc := s.pc + BitVec.ofNat 16 (readLength o), clocks := s.clocks + readCycles o s } ∧
      t.a.toNat = (s.a.toNat + (readOperand o s).1.toNat + s.cFlag.toNat) % 256 ∧
      t.cFlag = decide (255 < s.a.toNat + (readOperand o s).1.toNat + s.cFlag.toNat) ∧
      t.vFlag = ((s.a.getLsbD 7 == (readOperand o s).1.getLsbD 7) && (t.a.getLsbD 7 != s.a.getLsbD 7)) ∧
      t.zFlag = (t.a == 0x00#8) ∧ t.nFlag = t.a.getLsbD 7

/-- 42_arith_logic.md R205: SBC in every form: A - M - (1 - C) modulo 256, Carry when no borrow, Overflow when A and M differ
in sign and the result differs from A, Zero and Negative from the result. -/
def Obligations.SbcSubtractsWithBorrow : Prop :=
  ∀ s : State, EightReadForms .sbcImm .sbcZp .sbcZpx .sbcAbs .sbcAbx .sbcAby .sbcIzx .sbcIzy fun i o =>
    ∃ t, exec i s = .next t ∧
      t = { (readOperand o s).2 with
            a := t.a, zr := t.zr, nr := t.nr, cr := t.cr, p := setBit s.p bitV t.vFlag,
            pc := s.pc + BitVec.ofNat 16 (readLength o), clocks := s.clocks + readCycles o s } ∧
      (t.a.toNat : Int) =
        ((s.a.toNat : Int) - ((readOperand o s).1.toNat : Int) - (1 - (s.cFlag.toNat : Int))) % 256 ∧
      t.cFlag = decide ((readOperand o s).1.toNat + (1 - s.cFlag.toNat) ≤ s.a.toNat) ∧
      t.vFlag = ((s.a.getLsbD 7 != (readOperand o s).1.getLsbD 7) && (t.a.getLsbD 7 != s.a.getLsbD 7)) ∧
      t.zFlag = (t.a == 0x00#8) ∧ t.nFlag = t.a.getLsbD 7

/-- 42_arith_logic.md R203: the overflow bit is 1 iff the signs of the addends agree and the result's differs, for all byte
values; for the result of `AddCore` it equals signed overflow of a + m + c; it is what ADC leaves in `P.V`, and SBC with
the complemented operand. -/
def Obligations.OverflowIsSignedOverflow : Prop :=
  (∀ a m r : Byte, addOverflow a m r = true ↔ a.getLsbD 7 = m.getLsbD 7 ∧ r.getLsbD 7 ≠ a.getLsbD 7) ∧
  (∀ (a m : Byte) (c : Bool), addOverflow a m (addResult a m c) = true ↔
    (a.toInt + m.toInt + (c.toNat : Int) < -128 ∨ 127 < a.toInt + m.toInt + (c.toNat : Int))) ∧
  (∀ (m : Byte) (s : State),
    (adcOp m s).vFlag = addOverflow s.a m (addResult s.a m s.cFlag) ∧
    (sbcOp m s).vFlag = addOverflow s.a (m ^^^ 0xFF#8) (addResult s.a (m ^^^ 0xFF#8) s.cFlag))

/-- 42_arith_logic.md R206, R207, R208: AND, ORA, EOR in every form: A takes the result, Zero and Negative follow it, Carry,
Overflow and everything else are unchanged but for PC, `clocks` and what the operand's bus read changes. -/
def Obligations.LogicWritesAccumulatorZeroNegative : Prop :=
  (∀ s : State, EightReadForms .andImm .andZp .andZpx .andAbs .andAbx .andAby .andIzx .andIzy fun i o =>
    ∃ t, exec i s = .next t ∧
      t = { (readOperand o s).2 with
            a := s.a &&& (readOperand o s).1, zr := t.zr, nr := t.nr,
            pc := s.pc + BitVec.ofNat 16 (readLength o), clocks := s.clocks + readCycles o s } ∧
      t.zFlag = (t.a == 0x00#8) ∧ t.nFlag = t.a.getLsbD 7) ∧
  (∀ s : State, EightReadForms .oraImm .oraZp .oraZpx .oraAbs .oraAbx .oraAby .oraIzx .oraIzy fun i o =>
    ∃ t, exec i s = .next t ∧
      t = { (readOperand o s).2 with
            a := s.a ||| (readOperand o s).1, zr := t.zr, nr := t.nr,
            pc := s.pc + BitVec.ofNat 16 (readLength o), clocks := s.clocks + readCycles o s } ∧
      t.zFlag = (t.a == 0x00#8) ∧ t.nFlag = t.a.getLsbD 7) ∧
  (∀ s : State, EightReadForms .eorImm .eorZp .eorZpx .eorAbs .eorAbx .eorAby .eorIzx .eorIzy fun i o =>
    ∃ t, exec i s = .next t ∧
      t = { (readOperand o s).2 with
            a := s.a ^^^ (readOperand o s).1, zr := t.zr, nr := t.nr,
            pc := s.pc + BitVec.ofNat 16 (readLength o), clocks := s.clocks + readCycles o s } ∧
      t.zFlag = (t.a == 0x00#8) ∧ t.nFlag = t.a.getLsbD 7)

/-- 42_arith_logic.md R209 to R212: CMP, CPX, CPY in every form: Carry iff operand <= register (unsigned), Zero iff they are
equal, Negative bit 7 of the 8-bit difference; the register, Overflow and everything else are unchanged. -/
def Obligations.CompareWritesCarryZeroNegative : Prop :=
  (∀ s : State, EightReadForms .cmpImm .cmpZp .cmpZpx .cmpAbs .cmpAbx .cmpAby .cmpIzx .cmpIzy fun i o =>
    ∃ t, exec i s = .next t ∧
      t = { (readOperand o s).2 with
            zr := t.zr, nr := t.nr, cr := t.cr,
            pc := s.pc + BitVec.ofNat 16 (readLength o), clocks := s.clocks + readCycles o s } ∧
      t.cFlag = decide ((readOperand o s).1.toNat ≤ s.a.toNat) ∧
      t.zFlag = decide (s.a = (readOperand o s).1) ∧ t.nFlag = (s.a - (readOperand o s).1).getLsbD 7) ∧
  (∀ s : State, ThreeReadForms .cpxImm .cpxZp .cpxAbs fun i o =>
    ∃ t, exec i s = .next t ∧
      t = { (readOperand o s).2 with
            zr := t.zr, nr := t.nr, cr := t.cr,
            pc := s.pc + BitVec.ofNat 16 (readLength o), clocks := s.clocks + readCycles o s } ∧
      t.cFlag = decide ((readOperand o s).1.toNat ≤ s.x.toNat) ∧
      t.zFlag = decide (s.x = (readOperand o s).1) ∧ t.nFlag = (s.x - (readOperand o s).1).getLsbD 7) ∧
  (∀ s : State, ThreeReadForms .cpyImm .cpyZp .cpyAbs fun i o =>
    ∃ t, exec i s = .next t ∧
      t = { (readOperand o s).2 with
            zr := t.zr, nr := t.nr, cr := t.cr,
            pc := s.pc + BitVec.ofNat 16 (readLength o), clocks := s.clocks + readCycles o s } ∧
      t.cFlag = decide ((readOperand o s).1.toNat ≤ s.y.toNat) ∧
      t.zFlag = decide (s.y = (readOperand o s).1) ∧ t.nFlag = (s.y - (readOperand o s).1).getLsbD 7)

/-- 42_arith_logic.md R213: BIT in both forms: Zero from A and M, Negative and Overflow copied from bits 7 and 6 of M; Carry,
A and everything else unchanged but for PC, `clocks` and what the operand's bus read changes. -/
def Obligations.BitTestCopiesOperandBits : Prop :=
  ∀ s : State, BitForms fun i o =>
    ∃ t, exec i s = .next t ∧
      t = { (readOperand o s).2 with
            zr := t.zr, nr := t.nr, p := setBit s.p bitV t.vFlag,
            pc := s.pc + BitVec.ofNat 16 (readLength o), clocks := s.clocks + readCycles o s } ∧
      t.zFlag = ((s.a &&& (readOperand o s).1) == 0x00#8) ∧ t.nFlag = (readOperand o s).1.getLsbD 7 ∧
      t.vFlag = (readOperand o s).1.getLsbD 6

/-- 42_arith_logic.md section 5 (INC and DEC: decisions D15, D27): one read, one write of the value plus or minus one modulo
256 at the same effective address, Zero and Negative from it, no Carry, no Overflow, fixed cost. -/
def Obligations.IncrementAndDecrementMemory : Prop :=
  ∀ s : State,
    (FourRmwForms .incZp .incZpx .incAbs .incAbx fun i o cyc =>
      ∃ (t : State) (v : Byte), exec i s = .next t ∧ v.toNat = ((readMem o s).1.toNat + 1) % 256 ∧
        t = { writeAt o.fast (o.ea s) v (readMem o s).2 with
              zr := t.zr, nr := t.nr, pc := s.pc + BitVec.ofNat 16 (memLength o), clocks := s.clocks + cyc } ∧
        t.zFlag = (v == 0x00#8) ∧ t.nFlag = v.getLsbD 7) ∧
    (FourRmwForms .decZp .decZpx .decAbs .decAbx fun i o cyc =>
      ∃ (t : State) (v : Byte), exec i s = .next t ∧ v.toNat = ((readMem o s).1.toNat + 255) % 256 ∧
        t = { writeAt o.fast (o.ea s) v (readMem o s).2 with
              zr := t.zr, nr := t.nr, pc := s.pc + BitVec.ofNat 16 (memLength o), clocks := s.clocks + cyc } ∧
        t.zFlag = (v == 0x00#8) ∧ t.nFlag = v.getLsbD 7)

/-- 42_arith_logic.md section 5 (decision D27) and 41_load_store_transfer.md R182 (decision D25): INX, INY, DEX, DEY step
their register modulo 256 with Zero and Negative; TXS moves X to S and writes no flag. -/
def Obligations.IndexStepsAndTxs : Prop :=
  ∀ s : State,
    (∃ t, exec .inx s = .next t ∧
      t = { s with x := t.x, zr := t.zr, nr := t.nr, pc := s.pc + 1#16, clocks := s.clocks + 2 } ∧
      t.x.toNat = (s.x.toNat + 1) % 256 ∧ t.zFlag = (t.x == 0x00#8) ∧ t.nFlag = t.x.getLsbD 7) ∧
    (∃ t, exec .iny s = .next t ∧
      t = { s with y := t.y, zr := t.zr, nr := t.nr, pc := s.pc + 1#16, clocks := s.clocks + 2 } ∧
      t.y.toNat = (s.y.toNat + 1) % 256 ∧ t.zFlag = (t.y == 0x00#8) ∧ t.nFlag = t.y.getLsbD 7) ∧
    (∃ t, exec .dex s = .next t ∧
      t = { s with x := t.x, zr := t.zr, nr := t.nr, pc := s.pc + 1#16, clocks := s.clocks + 2 } ∧
      t.x.toNat = (s.x.toNat + 255) % 256 ∧ t.zFlag = (t.x == 0x00#8) ∧ t.nFlag = t.x.getLsbD 7) ∧
    (∃ t, exec .dey s = .next t ∧
      t = { s with y := t.y, zr := t.zr, nr := t.nr, pc := s.pc + 1#16, clocks := s.clocks + 2 } ∧
      t.y.toNat = (s.y.toNat + 255) % 256 ∧ t.zFlag = (t.y == 0x00#8) ∧ t.nFlag = t.y.getLsbD 7) ∧
    exec .txs s = .next { s with sp := s.x, pc := s.pc + 1#16, clocks := s.clocks + 2 }

/-- 42_arith_logic.md R220 to R224: ASL, LSR, ROL, ROR on the accumulator and on memory: Carry is the bit shifted out, the
rotates feed the previous Carry in, Zero and Negative follow the result, everything else is unchanged. -/
def Obligations.ShiftsAndRotates : Prop :=
  ∀ s : State,
    ShiftsAccumulator .aslAcc s (2 * s.a.toNat % 256) (s.a.getLsbD 7) ∧
    ShiftsAccumulator .lsrAcc s (s.a.toNat / 2) (s.a.getLsbD 0) ∧
    ShiftsAccumulator .rolAcc s ((2 * s.a.toNat + s.cFlag.toNat) % 256) (s.a.getLsbD 7) ∧
    ShiftsAccumulator .rorAcc s (s.a.toNat / 2 + 128 * s.cFlag.toNat) (s.a.getLsbD 0) ∧
    (FourRmwForms .aslZp .aslZpx .aslAbs .aslAbx fun i o cyc =>
      ShiftsMemory i o cyc s (fun v => 2 * v.toNat % 256) (fun v => v.getLsbD 7)) ∧
    (FourRmwForms .lsrZp .lsrZpx .lsrAbs .lsrAbx fun i o cyc =>
      ShiftsMemory i o cyc s (fun v => v.toNat / 2) (fun v => v.getLsbD 0)) ∧
    (FourRmwForms .rolZp .rolZpx .rolAbs .rolAbx fun i o cyc =>
      ShiftsMemory i o cyc s (fun v => (2 * v.toNat + s.cFlag.toNat) % 256) (fun v => v.getLsbD 7)) ∧
    (FourRmwForms .rorZp .rorZpx .rorAbs .rorAbx fun i o cyc =>
      ShiftsMemory i o cyc s (fun v => v.toNat / 2 + 128 * s.cFlag.toNat) (fun v => v.getLsbD 0))

/-- 20_memory.md section 3 and 40_dispatch_addressing.md section 2 (decision D15): INC, DEC, ASL, LSR, ROL, ROR on memory at a
plain page change, of all storage, only the byte at their effective address, and no register but PC. -/
def Obligations.ReadModifyWriteChangesOnlyItsByte : Prop :=
  ∀ (i : Instr) (o : MemOperand) (s : State),
    i.row.cls = .rmw → memOperandOf i.operand = some o →
    s.platform.sideEffectFree (hi8 (o.ea s)) = true → s.platform.plainWrite (hi8 (o.ea s)) = true →
    ∃ t, exec i s = .next t ∧
      (∀ b : Addr, s.platform.locate b ≠ s.platform.locate (o.ea s) → t.platform.peek b = s.platform.peek b) ∧
      t.zFlag = (t.platform.peek (o.ea s) == 0x00#8) ∧ t.nFlag = (t.platform.peek (o.ea s)).getLsbD 7 ∧
      t.a = s.a ∧ t.x = s.x ∧ t.y = s.y ∧ t.sp = s.sp ∧ t.p = s.p ∧ t.iface = s.iface

/-- 43_flag_stack_ops.md sections 2 and 4 (decisions D2, D27): CLC, SEC, CLI, SEI, CLV, CLD, SED write their flag and nothing
else; NOP only advances PC and `clocks`. -/
def Obligations.FlagInstructionsAndNop : Prop :=
  ∀ s : State,
    exec .clc s = .next { s with cr := false, pc := s.pc + 1#16, clocks := s.clocks + 2 } ∧
    exec .sec s = .next { s with cr := true, pc := s.pc + 1#16, clocks := s.clocks + 2 } ∧
    WritesStatusBit .cli 2 false s ∧ WritesStatusBit .sei 2 true s ∧ WritesStatusBit .clv 6 false s ∧
    WritesStatusBit .cld 3 false s ∧ WritesStatusBit .sed 3 true s ∧
    exec .nop s = .next { s with pc := s.pc + 1#16, clocks := s.clocks + 2 }

/-- 43_flag_stack_ops.md R240, R241: push stores at the current pointer and then decrements, pop increments and then loads,
both wrapping in the stack page; nothing else changes; a pop right after a push gives the byte back. -/
def Obligations.PushStoresThenDecrements : Prop :=
  (∀ (v : Byte) (s : State),
    push v s = { s with sp := s.sp - 1#8, platform := (push v s).platform } ∧
    (push v s).platform.peek (cat 0x01#8 s.sp) = v ∧
    (∀ b : Addr, s.platform.locate b ≠ s.platform.locate (cat 0x01#8 s.sp) →
      (push v s).platform.peek b = s.platform.peek b)) ∧
  (∀ s : State, pop s = (s.platform.peek (cat 0x01#8 (s.sp + 1#8)), { s with sp := s.sp + 1#8 })) ∧
  (∀ (v : Byte) (s : State), (pop (push v s)).1 = v ∧ (pop (push v s)).2.sp = s.sp)

/-- 43_flag_stack_ops.md section 1 (the page number is decision D5): any number of pushes moves S modulo 256 and touches no
storage outside the stack page, the last one lying where S stood; 257 pushes from S = 0x00 leave S at 0xFF. -/
def Obligations.StackWrapsInItsPage : Prop :=
  ∀ (vs : List Byte) (s : State),
    ((pushAll vs s).sp.toNat : Int) = ((s.sp.toNat : Int) - (vs.length : Int)) % 256 ∧
    (∀ b : Addr, s.platform.locate b < 256 ∨ 512 ≤ s.platform.locate b →
      (pushAll vs s).platform.peek b = s.platform.peek b) ∧
    (∀ v : Byte, (pushAll (vs ++ [v]) s).platform.peek (cat 0x01#8 (pushAll vs s).sp) = v) ∧
    (vs.length = 257 → s.sp = 0x00#8 → (pushAll vs s).sp = 0xFF#8)

/-- 43_flag_stack_ops.md section 3 (decisions D2, D27): PHA pushes A and writes no flag; PLA pulls A with Zero and Negative. -/
def Obligations.PushAndPullAccumulator : Prop :=
  ∀ s : State,
    exec .pha s = .next { s with
      platform := s.platform.poke (cat 0x01#8 s.sp) s.a, sp := s.sp - 1#8, pc := s.pc + 1#16,
      clocks := s.clocks + 3 } ∧
    (∃ t, exec .pla s = .next t ∧
      t = { s with
            a := s.platform.peek (cat 0x01#8 (s.sp + 1#8)), sp := s.sp + 1#8, zr := t.zr, nr := t.nr,
            pc := s.pc + 1#16, clocks := s.clocks + 4 } ∧
      t.zFlag = (t.a == 0x00#8) ∧ t.nFlag = t.a.getLsbD 7)

/-- 43_flag_stack_ops.md section 3 (decision D9): PHP pushes the live flags with R and B set and changes no flag; PLP takes all
six flags from the pulled byte, with the stored B clear and R set. -/
def Obligations.PushAndPullStatus : Prop :=
  ∀ s : State,
    (∃ (t : State) (v : Byte), exec .php s = .next t ∧ IsPackedStatus v s true ∧
      t = { s with
            platform := s.platform.poke (cat 0x01#8 s.sp) v, sp := s.sp - 1#8, p := t.p, pc := s.pc + 1#16,
            clocks := s.clocks + 3 } ∧
      SameFlags t s ∧ t.bFlag = s.bFlag ∧ t.rFlag = s.rFlag) ∧
    (∃ t, exec .plp s = .next t ∧
      t = { s with
            sp := s.sp + 1#8, p := t.p, zr := t.zr, nr := t.nr, cr := t.cr, pc := s.pc + 1#16,
            clocks := s.clocks + 4 } ∧
      FlagsFrom t (s.platform.peek (cat 0x01#8 (s.sp + 1#8))) ∧ t.bFlag = false ∧ t.rFlag = true)

/-- 44_control.md section 1 (decision D21): JMP absolute goes to its operand at 3 cycles; a jump to itself sets `clocks` to
`nextStop` instead (outside a batch this is the model's literal reading, log 10). -/
def Obligations.JumpAbsolute : Prop :=
  ∀ (w : Addr) (s : State),
    (w ≠ s.pc → exec (.jmpAbs w) s = .next { s with pc := w, clocks := s.clocks + 3 }) ∧
    (w = s.pc → exec (.jmpAbs w) s = .next { s with clocks := s.nextStop })

/-- 44_control.md section 1 and 40_dispatch_addressing.md section 3 (decisions D21, D36): JMP indirect reads the low byte at the
pointer and then the high byte at the next address within the pointer's page, both by the bus. -/
def Obligations.JumpIndirectWrapsInPage : Prop :=
  ∀ (w : Addr) (s : State), ∃ h : Addr,
    h.toNat = w.toNat / 256 * 256 + (w.toNat + 1) % 256 ∧
    exec (.jmpInd w) s = .next
      { (memRead h (memRead w s).2).2 with
        pc := cat (memRead h (memRead w s).2).1 (memRead w s).1, clocks := s.clocks + 5 }

/-- 44_control.md section 2 (decision D7, OPEN; log 6): JSR pushes `pc0 + JSR_PUSH_OFFSET`, high byte first, for either value
of the parameter, and jumps; no flag changes, and no other storage. -/
def Obligations.SubroutineCall : Prop :=
  ∀ (w : Addr) (s : State), ∃ (t : State) (ret : Addr), exec (.jsr w) s = .next t ∧
    (s.jsrPushOffset = .two → ret = s.pc + 2#16) ∧ (s.jsrPushOffset = .three → ret = s.pc + 3#16) ∧
    t = { s with platform := t.platform, sp := s.sp - 2#8, pc := w, clocks := s.clocks + 6 } ∧
    t.platform.peek (cat 0x01#8 s.sp) = hi8 ret ∧ t.platform.peek (cat 0x01#8 (s.sp - 1#8)) = lo8 ret ∧
    (∀ b : Addr, s.platform.locate b ≠ s.platform.locate (cat 0x01#8 s.sp) →
      s.platform.locate b ≠ s.platform.locate (cat 0x01#8 (s.sp - 1#8)) →
      t.platform.peek b = s.platform.peek b)

/-- 44_control.md R263: RTS pops the two PC bytes, low byte first, and adds one; nothing else changes but S and `clocks`. -/
def Obligations.SubroutineReturn : Prop :=
  ∀ s : State, exec .rts s = .next { s with
    sp := s.sp + 2#8,
    pc := cat (s.platform.peek (cat 0x01#8 (s.sp + 2#8))) (s.platform.peek (cat 0x01#8 (s.sp + 1#8))) + 1#16,
    clocks := s.clocks + 6 }

/-- 44_control.md section 2, the pair (R264 is the spec's own inference): a matching RTS resumes at
`pc0 + JSR_PUSH_OFFSET + 1` with S back: `pc0 + 3` under offset 2, `pc0 + 4` under offset 3. -/
def Obligations.CallAndReturnPair : Prop :=
  ∀ (w : Addr) (s : State), ∃ t u, exec (.jsr w) s = .next t ∧ exec .rts t = .next u ∧
    u.sp = s.sp ∧ (s.jsrPushOffset = .two → u.pc = s.pc + 3#16) ∧ (s.jsrPushOffset = .three → u.pc = s.pc + 4#16)

/-- 44_control.md section 3 (the signed offset and the page reference are decision D12): each of the eight branches tests its
flag and does what the common rule says. -/
def Obligations.ConditionalBranches : Prop :=
  ∀ (s : State) (off : Byte),
    BranchesOn (!s.nFlag) (.bpl off) off s ∧ BranchesOn s.nFlag (.bmi off) off s ∧
    BranchesOn (!s.vFlag) (.bvc off) off s ∧ BranchesOn s.vFlag (.bvs off) off s ∧
    BranchesOn (!s.cFlag) (.bcc off) off s ∧ BranchesOn s.cFlag (.bcs off) off s ∧
    BranchesOn (!s.zFlag) (.bne off) off s ∧ BranchesOn s.zFlag (.beq off) off s

/-- 60_exceptions.md section 3 (decisions D29, D30): interrupt entry. S falls by 3, I is set, 7 cycles, no other flag, no
register and neither B nor R changes. On any vector page: the three bytes PC high, PC low and the status with Break `b` are
pushed and no other storage changes, then PC is the two bus reads at the vector and the next address, in this order, and
nothing else changes but what those reads change (R72). Where the vector's page is side-effect-free they change nothing. -/
def Obligations.InterruptEntrySavesAndVectors : Prop :=
  ∀ (vec : Addr) (b : Bool) (s : State),
    vec = Config.vecNmi ∨ vec = Config.vecIrq ∨ vec = Config.vecBrk →
    (interruptEntry vec b s).sp = s.sp - 3#8 ∧ (interruptEntry vec b s).iFlag = true ∧
    (interruptEntry vec b s).clocks = s.clocks + 7 ∧
    SameFlags (interruptEntry vec b s) { s with p := setBit s.p 2 true } ∧
    (interruptEntry vec b s).bFlag = s.bFlag ∧ (interruptEntry vec b s).rFlag = s.rFlag ∧
    (interruptEntry vec b s).a = s.a ∧ (interruptEntry vec b s).x = s.x ∧ (interruptEntry vec b s).y = s.y ∧
    (interruptEntry vec b s).nextStop = s.nextStop ∧ (interruptEntry vec b s).halted = s.halted ∧
    (∃ u : State,
      u = { s with p := s.resolveToP.p, sp := s.sp - 3#8, platform := { s.platform with store := u.platform.store } } ∧
      u.platform.peek (cat 0x01#8 s.sp) = hi8 s.pc ∧ u.platform.peek (cat 0x01#8 (s.sp - 1#8)) = lo8 s.pc ∧
      IsPackedStatus (u.platform.peek (cat 0x01#8 (s.sp - 2#8))) s b ∧
      (∀ c : Addr, s.platform.locate c ≠ s.platform.locate (cat 0x01#8 s.sp) →
        s.platform.locate c ≠ s.platform.locate (cat 0x01#8 (s.sp - 1#8)) →
        s.platform.locate c ≠ s.platform.locate (cat 0x01#8 (s.sp - 2#8)) →
        u.platform.peek c = s.platform.peek c) ∧
      interruptEntry vec b s =
        { (memRead (vec + 1#16) (memRead vec u).2).2 with
          p := setBit s.resolveToP.p 2 true
          pc := cat (memRead (vec + 1#16) (memRead vec u).2).1 (memRead vec u).1
          clocks := s.clocks + 7 }) ∧
    (s.platform.sideEffectFree (hi8 vec) = true →
      (interruptEntry vec b s).iface = s.iface ∧
      (interruptEntry vec b s).pc = cat ((interruptEntry vec b s).platform.peek (vec + 1#16))
        ((interruptEntry vec b s).platform.peek vec) ∧
      (interruptEntry vec b s).platform.peek (cat 0x01#8 s.sp) = hi8 s.pc ∧
      (interruptEntry vec b s).platform.peek (cat 0x01#8 (s.sp - 1#8)) = lo8 s.pc ∧
      IsPackedStatus ((interruptEntry vec b s).platform.peek (cat 0x01#8 (s.sp - 2#8))) s b ∧
      (∀ c : Addr, s.platform.locate c ≠ s.platform.locate (cat 0x01#8 s.sp) →
        s.platform.locate c ≠ s.platform.locate (cat 0x01#8 (s.sp - 1#8)) →
        s.platform.locate c ≠ s.platform.locate (cat 0x01#8 (s.sp - 2#8)) →
        (interruptEntry vec b s).platform.peek c = s.platform.peek c))

/-- 44_control.md section 4 (decisions D8, D9, D33): BRK completes by entering the interrupt sequence from `pc0 + 2` with Break
set, whatever I holds, at 7 cycles in all; the pushed bytes and the vector are those of the entry. -/
def Obligations.SoftwareInterrupt : Prop :=
  ∀ s : State, ∃ t, exec .brk s = .next t ∧
    t = interruptEntry Config.vecIrq true { s with pc := s.pc + 2#16 } ∧
    t.iFlag = true ∧ t.sp = s.sp - 3#8 ∧ t.clocks = s.clocks + 7 ∧ t.bFlag = s.bFlag ∧
    (s.platform.sideEffectFree 0xFF#8 = true →
      t.pc = cat (t.platform.peek 0xFFFF#16) (t.platform.peek 0xFFFE#16) ∧
      t.platform.peek (cat 0x01#8 s.sp) = hi8 (s.pc + 2#16) ∧
      t.platform.peek (cat 0x01#8 (s.sp - 1#8)) = lo8 (s.pc + 2#16) ∧
      IsPackedStatus (t.platform.peek (cat 0x01#8 (s.sp - 2#8))) s true)

/-- 44_control.md section 4 (decision D9): RTI pops the status (all six flags, B cleared, R set) and then PC, low byte first,
with nothing added; nothing else changes but S and `clocks`. -/
def Obligations.ReturnFromInterrupt : Prop :=
  ∀ s : State, ∃ t, exec .rti s = .next t ∧
    t = { s with
          p := t.p, zr := t.zr, nr := t.nr, cr := t.cr, sp := s.sp + 3#8,
          pc := cat (s.platform.peek (cat 0x01#8 (s.sp + 3#8))) (s.platform.peek (cat 0x01#8 (s.sp + 2#8))),
          clocks := s.clocks + 6 } ∧
    FlagsFrom t (s.platform.peek (cat 0x01#8 (s.sp + 1#8))) ∧ t.bFlag = false ∧ t.rFlag = true

/-- 60_exceptions.md sections 3 and 4 (decisions D9, D29, D30): an RTI right after an interrupt entry through a side-effect-free
vector page resumes exactly where the entry interrupted: PC, S, A, X, Y, all six flags, 13 cycles later. -/
def Obligations.ReturnUndoesInterruptEntry : Prop :=
  ∀ (vec : Addr) (b : Bool) (s : State),
    vec = Config.vecNmi ∨ vec = Config.vecIrq ∨ vec = Config.vecBrk → s.platform.sideEffectFree (hi8 vec) = true →
    ∃ t, exec .rti (interruptEntry vec b s) = .next t ∧
      t.pc = s.pc ∧ t.sp = s.sp ∧ t.a = s.a ∧ t.x = s.x ∧ t.y = s.y ∧ SameFlags t s ∧
      t.clocks = s.clocks + 13 ∧ t.iface = s.iface

/-- 60_exceptions.md sections 2 and 4 (decision D20): `IRQ()` enters through `VEC_IRQ` with Break clear exactly when I is clear
and the core is not halted, otherwise nothing happens; right after an NMI entry it is dropped. -/
def Obligations.MaskableInterrupt : Prop :=
  (∀ s : State, s.iFlag = false → s.halted = false → irq s = interruptEntry 0xFFFE#16 false s) ∧
  (∀ s : State, s.iFlag = true ∨ s.halted = true → irq s = s) ∧
  (∀ s : State, irq (serviceNmi s) = serviceNmi s)

/-- 60_exceptions.md section 6, the end of a scheduler step (decisions D18, D22): a pending NMI is serviced whatever I holds,
through `VEC_NMI` with Break clear, and the flag is cleared after the entry, the thresholds being what the entry leaves;
otherwise, and when halted, nothing. -/
def Obligations.NmiServicedAtEndOfBatch : Prop :=
  (∀ s : State, s.iface.nmiPending = true → s.halted = false → ∃ t, endBatch s = t ∧
    t.iface.nmiPending = false ∧ t.clocks = s.clocks + 7 ∧ t.iFlag = true ∧
    t = { interruptEntry 0xFFFA#16 false s with
          iface := { (interruptEntry 0xFFFA#16 false s).iface with nmiPending := false } }) ∧
  (∀ s : State, s.iface.nmiPending = false ∨ s.halted = true → endBatch s = s)

/-- 10_state.md R30: `resolveToP` writes N, Z and C of `P` and nothing else; packing then unpacking keeps the three
predicates, unpacking then packing keeps the three bits, and `PackedP(b)` is `P` with R set and B forced to `b`. -/
def Obligations.StatusPackingRoundTrip : Prop :=
  ∀ s : State,
    (s.resolveToP = { s with p := s.resolveToP.p } ∧
      ∀ k, s.resolveToP.p.getLsbD k =
        if k = 7 then s.nFlag else if k = 1 then s.zFlag else if k = 0 then s.cFlag else s.p.getLsbD k) ∧
    (s.resolveToP.resolveFromP.nFlag = s.nFlag ∧ s.resolveToP.resolveFromP.zFlag = s.zFlag ∧
      s.resolveToP.resolveFromP.cFlag = s.cFlag) ∧
    (s.resolveFromP = { s with
        zr := if s.p.getLsbD 1 then 0#8 else 1#8, nr := if s.p.getLsbD 7 then 0x80#8 else 0x00#8, cr := s.p.getLsbD 0 } ∧
      s.resolveFromP.resolveToP.p = s.p) ∧
    (∀ (b : Bool) (k : Nat), (s.packedP b).getLsbD k =
      if k = 5 then true else if k = 4 then b else s.p.getLsbD k)

/-- Log 7 (decision D10 for the register values) and log 3: the invariant holds at reset. -/
def Obligations.InvariantAtReset : Prop :=
  State.reset.Inv ∧ State.reset.Safe

/-- 10_state.md section 7 and 70_reset_and_hazards.md section 1 (decisions D6, D10): what `Reset()` leaves from any state: the
values of the table, then PC from the two bus reads at `VEC_RESET`, low address first, and nothing else changes but what those
reads change, which is nothing where the vector page is side-effect-free; `State.reset` is a state `Reset()`
leaves (its storage, page pointers and thresholds are the model's choice, log 2, log 3). -/
def Obligations.ResetLeaves : Prop :=
  (∀ s : State,
    (resetCore s).a = 0x00#8 ∧ (resetCore s).x = 0x00#8 ∧ (resetCore s).y = 0x00#8 ∧ (resetCore s).sp = 0xFD#8 ∧
    (resetCore s).p = 0x24#8 ∧ (resetCore s).zr = 1#8 ∧ (resetCore s).nr = 0#8 ∧ (resetCore s).cr = false ∧
    (resetCore s).clocks = 0 ∧ (resetCore s).nextStop = 0 ∧ (resetCore s).halted = false ∧
    (resetCore s).jsrPushOffset = s.jsrPushOffset ∧
    (∃ u : State,
      u = { s with
            a := 0x00#8, x := 0x00#8, y := 0x00#8, sp := 0xFD#8, p := 0x24#8, zr := 1#8, nr := 0#8, cr := false
            clocks := 0, nextStop := 0, iface := { s.iface with nmiPending := false }, halted := false } ∧
      resetCore s =
        { (memRead 0xFFFD#16 (memRead 0xFFFC#16 u).2).2 with
          pc := cat (memRead 0xFFFD#16 (memRead 0xFFFC#16 u).2).1 (memRead 0xFFFC#16 u).1 }) ∧
    (s.platform.sideEffectFree 0xFF#8 = true →
      (resetCore s).pc = cat (s.platform.peek 0xFFFD#16) (s.platform.peek 0xFFFC#16) ∧
      (resetCore s).platform = s.platform ∧
      (resetCore s).iface = { s.iface with nmiPending := false })) ∧
  resetCore State.reset = State.reset

/-- 10_state.md section 3 (R32's inference that B = 0 and R = 1 are constants) and log 2: every step keeps the invariant, from
every state that meets it. -/
def Obligations.StepKeepsInvariant : Prop :=
  ∀ s t : State, s.Inv → step s = .next t → t.Inv

/-- 60_exceptions.md section 7 and log 2: every move of the caller and the collaborators keeps the invariant, whole scheduler
steps, interrupts, repointing and reset among them. -/
def Obligations.MovesKeepInvariant : Prop :=
  ∀ (m : Move) (s t : State), s.Inv → move m s = .next t → t.Inv

/-- 60_exceptions.md section 2 and 20_memory.md section 1 (log 11, log 6): a step never loses an NMI request, never moves
`nextStop`, and never changes the parameter. -/
def Obligations.StepKeepsSchedulerState : Prop :=
  ∀ s t : State, step s = .next t →
    (s.iface.nmiPending = true → t.iface.nmiPending = true) ∧ t.nextStop = s.nextStop ∧
    t.jsrPushOffset = s.jsrPushOffset

/-- 70_reset_and_hazards.md section 3 (R370 is the spec's own inference from D2's cycle table): an instruction adds at least 2 and
at most 7 cycles, but for the self-jump, which sets `clocks` to `nextStop`; so inside a batch the counter never falls. -/
def Obligations.InstructionCostBounds : Prop :=
  (∀ (i : Instr) (s t : State), exec i s = .next t →
    (i = .jmpAbs s.pc ∧ t.clocks = s.nextStop) ∨
    (i ≠ .jmpAbs s.pc ∧ s.clocks + 2 ≤ t.clocks ∧ t.clocks ≤ s.clocks + 7)) ∧
  (∀ s t : State, s.clocks ≤ s.nextStop → step s = .next t → s.clocks ≤ t.clocks)

/-- 60_exceptions.md section 6 (R322 is the spec's own inference; decisions D18, D19): `SchedulerStep()` always completes, and its
loop has really ended: at the boundary or halted, with `nextStop` the boundary sampled at the start. -/
def Obligations.SchedulerStepTerminates : Prop :=
  ∀ s : State, s.halted = false → ∃ u,
    batchLoop { s with nextStop := boundary s } = .next u ∧ (u.halted = true ∨ boundary s ≤ u.clocks) ∧
    u.nextStop = boundary s ∧ schedulerStep s = .next (endBatch u)

/-- 70_reset_and_hazards.md section 3 (R370 is the spec's own inference): a scheduler step overruns its boundary by at most 6 cycles
and an NMI entry; one that starts at or past the boundary runs no instruction and adds 0 or 7. -/
def Obligations.SchedulerStepOverrun : Prop :=
  ∀ s t : State, s.halted = false → schedulerStep s = .next t →
    (s.clocks < boundary s → t.clocks ≤ boundary s + 6 + 7) ∧
    (boundary s ≤ s.clocks → t = endBatch { s with nextStop := boundary s } ∧
      (t.clocks = s.clocks ∨ t.clocks = s.clocks + 7))

/-- 60_exceptions.md section 6 (decisions D18, D24): the boundary is the least of the armed thresholds and, with an NMI pending,
the current clock plus 7. -/
def Obligations.BoundaryIsLeastArmedThreshold : Prop :=
  ∀ s : State,
    boundary s ≤ s.iface.ppuClocks ∧ (s.iface.irqClocks ≠ 0 → boundary s ≤ s.iface.irqClocks) ∧
    (s.iface.nmiPending = true → boundary s ≤ s.clocks + 7) ∧
    (boundary s = s.iface.ppuClocks ∨ (s.iface.irqClocks ≠ 0 ∧ boundary s = s.iface.irqClocks) ∨
      (s.iface.nmiPending = true ∧ boundary s = s.clocks + 7))

/-- 10_state.md section 3 (decisions D25, D27): over all instructions, a flag changes only in an instruction listed as its writer. -/
def Obligations.OnlyListedInstructionsWriteFlags : Prop :=
  ∀ (i : Instr) (s t : State), exec i s = .next t →
    (i.row.mnemonic ∉ [.lda, .ldx, .ldy, .tax, .tay, .txa, .tya, .tsx, .pla, .inc, .dec, .inx, .iny, .dex, .dey, .and,
        .ora, .eor, .adc, .sbc, .asl, .lsr, .rol, .ror, .cmp, .cpx, .cpy, .bit, .plp, .rti] →
      t.zFlag = s.zFlag ∧ t.nFlag = s.nFlag) ∧
    (i.row.mnemonic ∉ [.adc, .sbc, .asl, .lsr, .rol, .ror, .cmp, .cpx, .cpy, .clc, .sec, .plp, .rti] →
      t.cFlag = s.cFlag) ∧
    (i.row.mnemonic ∉ [.adc, .sbc, .bit, .clv, .plp, .rti] → t.vFlag = s.vFlag) ∧
    (i.row.mnemonic ∉ [.sei, .cli, .plp, .rti, .brk] → t.iFlag = s.iFlag) ∧
    (i.row.mnemonic ∉ [.sed, .cld, .plp, .rti] → t.dFlag = s.dFlag)

/-- 10_state.md section 1 (R22 is the spec's own inference): over all instructions, a register changes only in an instruction listed
as its writer, the shifts and rotates writing A only in their accumulator form. -/
def Obligations.OnlyListedInstructionsWriteRegisters : Prop :=
  ∀ (i : Instr) (s t : State), exec i s = .next t →
    (i.row.mnemonic ∉ [.lda, .txa, .tya, .pla, .adc, .sbc, .and, .ora, .eor] →
      (i.row.mnemonic ∈ [.asl, .lsr, .rol, .ror] → i.row.mode ≠ .imp) → t.a = s.a) ∧
    (i.row.mnemonic ∉ [.ldx, .tax, .tsx, .inx, .dex] → t.x = s.x) ∧
    (i.row.mnemonic ∉ [.ldy, .tay, .iny, .dey] → t.y = s.y) ∧
    (i.row.mnemonic ∉ [.txs, .pha, .php, .pla, .plp, .jsr, .rts, .rti, .brk] → t.sp = s.sp)

/-- 20_memory.md section 3 (decisions D14, D15, D17): with no device page to read, an instruction that is no store, no
read-modify-write on memory and no push leaves the whole platform and the interface record unchanged. -/
def Obligations.OnlyStoresAndPushesChangeStorage : Prop :=
  ∀ (i : Instr) (s t : State), exec i s = .next t → s.platform.readIo = [] →
    i.row.mnemonic ∉ [.sta, .stx, .sty, .inc, .dec, .pha, .php, .jsr, .brk] →
    (i.row.mnemonic ∈ [.asl, .lsr, .rol, .ror] → i.row.mode = .imp) →
    t.platform = s.platform ∧ t.iface = s.iface

/-- 60_exceptions.md section 7 (decision D24) and 20_memory.md sections 1 and 5 (decision D28, log 5, log 15): between
scheduler steps the collaborators write no field of the core but the thresholds, the NMI flag and the platform; the
mapper's trigger re-arms and then invokes `IRQ()`; a repointing moves only its page; a repointing of page 0 or
`STACK_PAGE` is refused, and those pages show `RAM` whatever else happens to the platform. -/
def Obligations.CollaboratorsWriteNoCoreRegister : Prop :=
  (∀ (s : State) (ppu : Nat) (req : Bool), s.iface.ppuClocks ≤ s.clocks → s.iface.ppuClocks < ppu →
    move (.videoStep ppu req) s = .next { s with
      iface := { ppuClocks := ppu, irqClocks := s.iface.irqClocks, nmiPending := s.iface.nmiPending || req } }) ∧
  (∀ (s : State) (rearm : Nat), s.iface.irqClocks ≠ 0 → s.iface.irqClocks ≤ s.clocks →
    move (.mapperIrq rearm) s = .next (irq { s with iface := { s.iface with irqClocks := rearm } })) ∧
  (∀ (s : State) (c : PlatformChange), ∃ t, move (.platformChange c) s = .next t ∧
    t = { s with platform := { t.platform with
      map := s.platform.map, readIo := s.platform.readIo, writeIo := s.platform.writeIo } }) ∧
  (∀ (s : State) (page : Byte) (target : Nat), page ≠ 0x00#8 → page ≠ 0x01#8 →
    ∃ t, move (.repoint page target) s = .next t ∧
      t = { s with platform := { s.platform with map := t.platform.map } } ∧
      ∀ p : Byte, t.platform.shown p = if p = page then target else s.platform.shown p) ∧
  (∀ (s : State) (page : Byte) (target : Nat), page = 0x00#8 ∨ page = 0x01#8 →
    move (.repoint page target) s = .refused .ramPageRepointed) ∧
  (∀ (pl : Platform) (r : DeviceReply) (o : Byte),
    (pl.reply r).locate (cat 0x00#8 o) = o.toNat ∧ (pl.reply r).locate (cat 0x01#8 o) = 256 + o.toNat)
end

