-- ==== Sys2Proof/Laws/State.lean ====
section
/-! SUPPORT. One lemma per field per setter, so that no later proof unfolds a record update. -/
namespace Sys2Proof.Machine

@[simp] theorem State.setA_a (s : State) (v : Byte) : (s.setA v).a = v := rfl
@[simp] theorem State.setA_x (s : State) (v : Byte) : (s.setA v).x = s.x := rfl
@[simp] theorem State.setA_y (s : State) (v : Byte) : (s.setA v).y = s.y := rfl
@[simp] theorem State.setA_sp (s : State) (v : Byte) : (s.setA v).sp = s.sp := rfl
@[simp] theorem State.setA_pc (s : State) (v : Byte) : (s.setA v).pc = s.pc := rfl
@[simp] theorem State.setA_p (s : State) (v : Byte) : (s.setA v).p = s.p := rfl
@[simp] theorem State.setA_zr (s : State) (v : Byte) : (s.setA v).zr = s.zr := rfl
@[simp] theorem State.setA_nr (s : State) (v : Byte) : (s.setA v).nr = s.nr := rfl
@[simp] theorem State.setA_cr (s : State) (v : Byte) : (s.setA v).cr = s.cr := rfl
@[simp] theorem State.setA_clocks (s : State) (v : Byte) : (s.setA v).clocks = s.clocks := rfl
@[simp] theorem State.setA_nextStop (s : State) (v : Byte) : (s.setA v).nextStop = s.nextStop := rfl
@[simp] theorem State.setA_iface (s : State) (v : Byte) : (s.setA v).iface = s.iface := rfl
@[simp] theorem State.setA_halted (s : State) (v : Byte) : (s.setA v).halted = s.halted := rfl
@[simp] theorem State.setA_platform (s : State) (v : Byte) : (s.setA v).platform = s.platform := rfl
@[simp] theorem State.setA_jsrPushOffset (s : State) (v : Byte) : (s.setA v).jsrPushOffset = s.jsrPushOffset := rfl

@[simp] theorem State.setX_a (s : State) (v : Byte) : (s.setX v).a = s.a := rfl
@[simp] theorem State.setX_x (s : State) (v : Byte) : (s.setX v).x = v := rfl
@[simp] theorem State.setX_y (s : State) (v : Byte) : (s.setX v).y = s.y := rfl
@[simp] theorem State.setX_sp (s : State) (v : Byte) : (s.setX v).sp = s.sp := rfl
@[simp] theorem State.setX_pc (s : State) (v : Byte) : (s.setX v).pc = s.pc := rfl
@[simp] theorem State.setX_p (s : State) (v : Byte) : (s.setX v).p = s.p := rfl
@[simp] theorem State.setX_zr (s : State) (v : Byte) : (s.setX v).zr = s.zr := rfl
@[simp] theorem State.setX_nr (s : State) (v : Byte) : (s.setX v).nr = s.nr := rfl
@[simp] theorem State.setX_cr (s : State) (v : Byte) : (s.setX v).cr = s.cr := rfl
@[simp] theorem State.setX_clocks (s : State) (v : Byte) : (s.setX v).clocks = s.clocks := rfl
@[simp] theorem State.setX_nextStop (s : State) (v : Byte) : (s.setX v).nextStop = s.nextStop := rfl
@[simp] theorem State.setX_iface (s : State) (v : Byte) : (s.setX v).iface = s.iface := rfl
@[simp] theorem State.setX_halted (s : State) (v : Byte) : (s.setX v).halted = s.halted := rfl
@[simp] theorem State.setX_platform (s : State) (v : Byte) : (s.setX v).platform = s.platform := rfl
@[simp] theorem State.setX_jsrPushOffset (s : State) (v : Byte) : (s.setX v).jsrPushOffset = s.jsrPushOffset := rfl

@[simp] theorem State.setY_a (s : State) (v : Byte) : (s.setY v).a = s.a := rfl
@[simp] theorem State.setY_x (s : State) (v : Byte) : (s.setY v).x = s.x := rfl
@[simp] theorem State.setY_y (s : State) (v : Byte) : (s.setY v).y = v := rfl
@[simp] theorem State.setY_sp (s : State) (v : Byte) : (s.setY v).sp = s.sp := rfl
@[simp] theorem State.setY_pc (s : State) (v : Byte) : (s.setY v).pc = s.pc := rfl
@[simp] theorem State.setY_p (s : State) (v : Byte) : (s.setY v).p = s.p := rfl
@[simp] theorem State.setY_zr (s : State) (v : Byte) : (s.setY v).zr = s.zr := rfl
@[simp] theorem State.setY_nr (s : State) (v : Byte) : (s.setY v).nr = s.nr := rfl
@[simp] theorem State.setY_cr (s : State) (v : Byte) : (s.setY v).cr = s.cr := rfl
@[simp] theorem State.setY_clocks (s : State) (v : Byte) : (s.setY v).clocks = s.clocks := rfl
@[simp] theorem State.setY_nextStop (s : State) (v : Byte) : (s.setY v).nextStop = s.nextStop := rfl
@[simp] theorem State.setY_iface (s : State) (v : Byte) : (s.setY v).iface = s.iface := rfl
@[simp] theorem State.setY_halted (s : State) (v : Byte) : (s.setY v).halted = s.halted := rfl
@[simp] theorem State.setY_platform (s : State) (v : Byte) : (s.setY v).platform = s.platform := rfl
@[simp] theorem State.setY_jsrPushOffset (s : State) (v : Byte) : (s.setY v).jsrPushOffset = s.jsrPushOffset := rfl

@[simp] theorem State.setSp_a (s : State) (v : Byte) : (s.setSp v).a = s.a := rfl
@[simp] theorem State.setSp_x (s : State) (v : Byte) : (s.setSp v).x = s.x := rfl
@[simp] theorem State.setSp_y (s : State) (v : Byte) : (s.setSp v).y = s.y := rfl
@[simp] theorem State.setSp_sp (s : State) (v : Byte) : (s.setSp v).sp = v := rfl
@[simp] theorem State.setSp_pc (s : State) (v : Byte) : (s.setSp v).pc = s.pc := rfl
@[simp] theorem State.setSp_p (s : State) (v : Byte) : (s.setSp v).p = s.p := rfl
@[simp] theorem State.setSp_zr (s : State) (v : Byte) : (s.setSp v).zr = s.zr := rfl
@[simp] theorem State.setSp_nr (s : State) (v : Byte) : (s.setSp v).nr = s.nr := rfl
@[simp] theorem State.setSp_cr (s : State) (v : Byte) : (s.setSp v).cr = s.cr := rfl
@[simp] theorem State.setSp_clocks (s : State) (v : Byte) : (s.setSp v).clocks = s.clocks := rfl
@[simp] theorem State.setSp_nextStop (s : State) (v : Byte) : (s.setSp v).nextStop = s.nextStop := rfl
@[simp] theorem State.setSp_iface (s : State) (v : Byte) : (s.setSp v).iface = s.iface := rfl
@[simp] theorem State.setSp_halted (s : State) (v : Byte) : (s.setSp v).halted = s.halted := rfl
@[simp] theorem State.setSp_platform (s : State) (v : Byte) : (s.setSp v).platform = s.platform := rfl
@[simp] theorem State.setSp_jsrPushOffset (s : State) (v : Byte) : (s.setSp v).jsrPushOffset = s.jsrPushOffset := rfl

@[simp] theorem State.setPc_a (s : State) (v : Addr) : (s.setPc v).a = s.a := rfl
@[simp] theorem State.setPc_x (s : State) (v : Addr) : (s.setPc v).x = s.x := rfl
@[simp] theorem State.setPc_y (s : State) (v : Addr) : (s.setPc v).y = s.y := rfl
@[simp] theorem State.setPc_sp (s : State) (v : Addr) : (s.setPc v).sp = s.sp := rfl
@[simp] theorem State.setPc_pc (s : State) (v : Addr) : (s.setPc v).pc = v := rfl
@[simp] theorem State.setPc_p (s : State) (v : Addr) : (s.setPc v).p = s.p := rfl
@[simp] theorem State.setPc_zr (s : State) (v : Addr) : (s.setPc v).zr = s.zr := rfl
@[simp] theorem State.setPc_nr (s : State) (v : Addr) : (s.setPc v).nr = s.nr := rfl
@[simp] theorem State.setPc_cr (s : State) (v : Addr) : (s.setPc v).cr = s.cr := rfl
@[simp] theorem State.setPc_clocks (s : State) (v : Addr) : (s.setPc v).clocks = s.clocks := rfl
@[simp] theorem State.setPc_nextStop (s : State) (v : Addr) : (s.setPc v).nextStop = s.nextStop := rfl
@[simp] theorem State.setPc_iface (s : State) (v : Addr) : (s.setPc v).iface = s.iface := rfl
@[simp] theorem State.setPc_halted (s : State) (v : Addr) : (s.setPc v).halted = s.halted := rfl
@[simp] theorem State.setPc_platform (s : State) (v : Addr) : (s.setPc v).platform = s.platform := rfl
@[simp] theorem State.setPc_jsrPushOffset (s : State) (v : Addr) : (s.setPc v).jsrPushOffset = s.jsrPushOffset := rfl

@[simp] theorem State.setP_a (s : State) (v : Byte) : (s.setP v).a = s.a := rfl
@[simp] theorem State.setP_x (s : State) (v : Byte) : (s.setP v).x = s.x := rfl
@[simp] theorem State.setP_y (s : State) (v : Byte) : (s.setP v).y = s.y := rfl
@[simp] theorem State.setP_sp (s : State) (v : Byte) : (s.setP v).sp = s.sp := rfl
@[simp] theorem State.setP_pc (s : State) (v : Byte) : (s.setP v).pc = s.pc := rfl
@[simp] theorem State.setP_p (s : State) (v : Byte) : (s.setP v).p = v := rfl
@[simp] theorem State.setP_zr (s : State) (v : Byte) : (s.setP v).zr = s.zr := rfl
@[simp] theorem State.setP_nr (s : State) (v : Byte) : (s.setP v).nr = s.nr := rfl
@[simp] theorem State.setP_cr (s : State) (v : Byte) : (s.setP v).cr = s.cr := rfl
@[simp] theorem State.setP_clocks (s : State) (v : Byte) : (s.setP v).clocks = s.clocks := rfl
@[simp] theorem State.setP_nextStop (s : State) (v : Byte) : (s.setP v).nextStop = s.nextStop := rfl
@[simp] theorem State.setP_iface (s : State) (v : Byte) : (s.setP v).iface = s.iface := rfl
@[simp] theorem State.setP_halted (s : State) (v : Byte) : (s.setP v).halted = s.halted := rfl
@[simp] theorem State.setP_platform (s : State) (v : Byte) : (s.setP v).platform = s.platform := rfl
@[simp] theorem State.setP_jsrPushOffset (s : State) (v : Byte) : (s.setP v).jsrPushOffset = s.jsrPushOffset := rfl

@[simp] theorem State.setZr_a (s : State) (v : Byte) : (s.setZr v).a = s.a := rfl
@[simp] theorem State.setZr_x (s : State) (v : Byte) : (s.setZr v).x = s.x := rfl
@[simp] theorem State.setZr_y (s : State) (v : Byte) : (s.setZr v).y = s.y := rfl
@[simp] theorem State.setZr_sp (s : State) (v : Byte) : (s.setZr v).sp = s.sp := rfl
@[simp] theorem State.setZr_pc (s : State) (v : Byte) : (s.setZr v).pc = s.pc := rfl
@[simp] theorem State.setZr_p (s : State) (v : Byte) : (s.setZr v).p = s.p := rfl
@[simp] theorem State.setZr_zr (s : State) (v : Byte) : (s.setZr v).zr = v := rfl
@[simp] theorem State.setZr_nr (s : State) (v : Byte) : (s.setZr v).nr = s.nr := rfl
@[simp] theorem State.setZr_cr (s : State) (v : Byte) : (s.setZr v).cr = s.cr := rfl
@[simp] theorem State.setZr_clocks (s : State) (v : Byte) : (s.setZr v).clocks = s.clocks := rfl
@[simp] theorem State.setZr_nextStop (s : State) (v : Byte) : (s.setZr v).nextStop = s.nextStop := rfl
@[simp] theorem State.setZr_iface (s : State) (v : Byte) : (s.setZr v).iface = s.iface := rfl
@[simp] theorem State.setZr_halted (s : State) (v : Byte) : (s.setZr v).halted = s.halted := rfl
@[simp] theorem State.setZr_platform (s : State) (v : Byte) : (s.setZr v).platform = s.platform := rfl
@[simp] theorem State.setZr_jsrPushOffset (s : State) (v : Byte) : (s.setZr v).jsrPushOffset = s.jsrPushOffset := rfl

@[simp] theorem State.setNr_a (s : State) (v : Byte) : (s.setNr v).a = s.a := rfl
@[simp] theorem State.setNr_x (s : State) (v : Byte) : (s.setNr v).x = s.x := rfl
@[simp] theorem State.setNr_y (s : State) (v : Byte) : (s.setNr v).y = s.y := rfl
@[simp] theorem State.setNr_sp (s : State) (v : Byte) : (s.setNr v).sp = s.sp := rfl
@[simp] theorem State.setNr_pc (s : State) (v : Byte) : (s.setNr v).pc = s.pc := rfl
@[simp] theorem State.setNr_p (s : State) (v : Byte) : (s.setNr v).p = s.p := rfl
@[simp] theorem State.setNr_zr (s : State) (v : Byte) : (s.setNr v).zr = s.zr := rfl
@[simp] theorem State.setNr_nr (s : State) (v : Byte) : (s.setNr v).nr = v := rfl
@[simp] theorem State.setNr_cr (s : State) (v : Byte) : (s.setNr v).cr = s.cr := rfl
@[simp] theorem State.setNr_clocks (s : State) (v : Byte) : (s.setNr v).clocks = s.clocks := rfl
@[simp] theorem State.setNr_nextStop (s : State) (v : Byte) : (s.setNr v).nextStop = s.nextStop := rfl
@[simp] theorem State.setNr_iface (s : State) (v : Byte) : (s.setNr v).iface = s.iface := rfl
@[simp] theorem State.setNr_halted (s : State) (v : Byte) : (s.setNr v).halted = s.halted := rfl
@[simp] theorem State.setNr_platform (s : State) (v : Byte) : (s.setNr v).platform = s.platform := rfl
@[simp] theorem State.setNr_jsrPushOffset (s : State) (v : Byte) : (s.setNr v).jsrPushOffset = s.jsrPushOffset := rfl

@[simp] theorem State.setCr_a (s : State) (v : Bool) : (s.setCr v).a = s.a := rfl
@[simp] theorem State.setCr_x (s : State) (v : Bool) : (s.setCr v).x = s.x := rfl
@[simp] theorem State.setCr_y (s : State) (v : Bool) : (s.setCr v).y = s.y := rfl
@[simp] theorem State.setCr_sp (s : State) (v : Bool) : (s.setCr v).sp = s.sp := rfl
@[simp] theorem State.setCr_pc (s : State) (v : Bool) : (s.setCr v).pc = s.pc := rfl
@[simp] theorem State.setCr_p (s : State) (v : Bool) : (s.setCr v).p = s.p := rfl
@[simp] theorem State.setCr_zr (s : State) (v : Bool) : (s.setCr v).zr = s.zr := rfl
@[simp] theorem State.setCr_nr (s : State) (v : Bool) : (s.setCr v).nr = s.nr := rfl
@[simp] theorem State.setCr_cr (s : State) (v : Bool) : (s.setCr v).cr = v := rfl
@[simp] theorem State.setCr_clocks (s : State) (v : Bool) : (s.setCr v).clocks = s.clocks := rfl
@[simp] theorem State.setCr_nextStop (s : State) (v : Bool) : (s.setCr v).nextStop = s.nextStop := rfl
@[simp] theorem State.setCr_iface (s : State) (v : Bool) : (s.setCr v).iface = s.iface := rfl
@[simp] theorem State.setCr_halted (s : State) (v : Bool) : (s.setCr v).halted = s.halted := rfl
@[simp] theorem State.setCr_platform (s : State) (v : Bool) : (s.setCr v).platform = s.platform := rfl
@[simp] theorem State.setCr_jsrPushOffset (s : State) (v : Bool) : (s.setCr v).jsrPushOffset = s.jsrPushOffset := rfl

@[simp] theorem State.setClocks_a (s : State) (v : Nat) : (s.setClocks v).a = s.a := rfl
@[simp] theorem State.setClocks_x (s : State) (v : Nat) : (s.setClocks v).x = s.x := rfl
@[simp] theorem State.setClocks_y (s : State) (v : Nat) : (s.setClocks v).y = s.y := rfl
@[simp] theorem State.setClocks_sp (s : State) (v : Nat) : (s.setClocks v).sp = s.sp := rfl
@[simp] theorem State.setClocks_pc (s : State) (v : Nat) : (s.setClocks v).pc = s.pc := rfl
@[simp] theorem State.setClocks_p (s : State) (v : Nat) : (s.setClocks v).p = s.p := rfl
@[simp] theorem State.setClocks_zr (s : State) (v : Nat) : (s.setClocks v).zr = s.zr := rfl
@[simp] theorem State.setClocks_nr (s : State) (v : Nat) : (s.setClocks v).nr = s.nr := rfl
@[simp] theorem State.setClocks_cr (s : State) (v : Nat) : (s.setClocks v).cr = s.cr := rfl
@[simp] theorem State.setClocks_clocks (s : State) (v : Nat) : (s.setClocks v).clocks = v := rfl
@[simp] theorem State.setClocks_nextStop (s : State) (v : Nat) : (s.setClocks v).nextStop = s.nextStop := rfl
@[simp] theorem State.setClocks_iface (s : State) (v : Nat) : (s.setClocks v).iface = s.iface := rfl
@[simp] theorem State.setClocks_halted (s : State) (v : Nat) : (s.setClocks v).halted = s.halted := rfl
@[simp] theorem State.setClocks_platform (s : State) (v : Nat) : (s.setClocks v).platform = s.platform := rfl
@[simp] theorem State.setClocks_jsrPushOffset (s : State) (v : Nat) : (s.setClocks v).jsrPushOffset = s.jsrPushOffset := rfl

@[simp] theorem State.setNextStop_a (s : State) (v : Nat) : (s.setNextStop v).a = s.a := rfl
@[simp] theorem State.setNextStop_x (s : State) (v : Nat) : (s.setNextStop v).x = s.x := rfl
@[simp] theorem State.setNextStop_y (s : State) (v : Nat) : (s.setNextStop v).y = s.y := rfl
@[simp] theorem State.setNextStop_sp (s : State) (v : Nat) : (s.setNextStop v).sp = s.sp := rfl
@[simp] theorem State.setNextStop_pc (s : State) (v : Nat) : (s.setNextStop v).pc = s.pc := rfl
@[simp] theorem State.setNextStop_p (s : State) (v : Nat) : (s.setNextStop v).p = s.p := rfl
@[simp] theorem State.setNextStop_zr (s : State) (v : Nat) : (s.setNextStop v).zr = s.zr := rfl
@[simp] theorem State.setNextStop_nr (s : State) (v : Nat) : (s.setNextStop v).nr = s.nr := rfl
@[simp] theorem State.setNextStop_cr (s : State) (v : Nat) : (s.setNextStop v).cr = s.cr := rfl
@[simp] theorem State.setNextStop_clocks (s : State) (v : Nat) : (s.setNextStop v).clocks = s.clocks := rfl
@[simp] theorem State.setNextStop_nextStop (s : State) (v : Nat) : (s.setNextStop v).nextStop = v := rfl
@[simp] theorem State.setNextStop_iface (s : State) (v : Nat) : (s.setNextStop v).iface = s.iface := rfl
@[simp] theorem State.setNextStop_halted (s : State) (v : Nat) : (s.setNextStop v).halted = s.halted := rfl
@[simp] theorem State.setNextStop_platform (s : State) (v : Nat) : (s.setNextStop v).platform = s.platform := rfl
@[simp] theorem State.setNextStop_jsrPushOffset (s : State) (v : Nat) : (s.setNextStop v).jsrPushOffset = s.jsrPushOffset := rfl

@[simp] theorem State.setIface_a (s : State) (v : Iface) : (s.setIface v).a = s.a := rfl
@[simp] theorem State.setIface_x (s : State) (v : Iface) : (s.setIface v).x = s.x := rfl
@[simp] theorem State.setIface_y (s : State) (v : Iface) : (s.setIface v).y = s.y := rfl
@[simp] theorem State.setIface_sp (s : State) (v : Iface) : (s.setIface v).sp = s.sp := rfl
@[simp] theorem State.setIface_pc (s : State) (v : Iface) : (s.setIface v).pc = s.pc := rfl
@[simp] theorem State.setIface_p (s : State) (v : Iface) : (s.setIface v).p = s.p := rfl
@[simp] theorem State.setIface_zr (s : State) (v : Iface) : (s.setIface v).zr = s.zr := rfl
@[simp] theorem State.setIface_nr (s : State) (v : Iface) : (s.setIface v).nr = s.nr := rfl
@[simp] theorem State.setIface_cr (s : State) (v : Iface) : (s.setIface v).cr = s.cr := rfl
@[simp] theorem State.setIface_clocks (s : State) (v : Iface) : (s.setIface v).clocks = s.clocks := rfl
@[simp] theorem State.setIface_nextStop (s : State) (v : Iface) : (s.setIface v).nextStop = s.nextStop := rfl
@[simp] theorem State.setIface_iface (s : State) (v : Iface) : (s.setIface v).iface = v := rfl
@[simp] theorem State.setIface_halted (s : State) (v : Iface) : (s.setIface v).halted = s.halted := rfl
@[simp] theorem State.setIface_platform (s : State) (v : Iface) : (s.setIface v).platform = s.platform := rfl
@[simp] theorem State.setIface_jsrPushOffset (s : State) (v : Iface) : (s.setIface v).jsrPushOffset = s.jsrPushOffset := rfl

@[simp] theorem State.setHalted_a (s : State) (v : Bool) : (s.setHalted v).a = s.a := rfl
@[simp] theorem State.setHalted_x (s : State) (v : Bool) : (s.setHalted v).x = s.x := rfl
@[simp] theorem State.setHalted_y (s : State) (v : Bool) : (s.setHalted v).y = s.y := rfl
@[simp] theorem State.setHalted_sp (s : State) (v : Bool) : (s.setHalted v).sp = s.sp := rfl
@[simp] theorem State.setHalted_pc (s : State) (v : Bool) : (s.setHalted v).pc = s.pc := rfl
@[simp] theorem State.setHalted_p (s : State) (v : Bool) : (s.setHalted v).p = s.p := rfl
@[simp] theorem State.setHalted_zr (s : State) (v : Bool) : (s.setHalted v).zr = s.zr := rfl
@[simp] theorem State.setHalted_nr (s : State) (v : Bool) : (s.setHalted v).nr = s.nr := rfl
@[simp] theorem State.setHalted_cr (s : State) (v : Bool) : (s.setHalted v).cr = s.cr := rfl
@[simp] theorem State.setHalted_clocks (s : State) (v : Bool) : (s.setHalted v).clocks = s.clocks := rfl
@[simp] theorem State.setHalted_nextStop (s : State) (v : Bool) : (s.setHalted v).nextStop = s.nextStop := rfl
@[simp] theorem State.setHalted_iface (s : State) (v : Bool) : (s.setHalted v).iface = s.iface := rfl
@[simp] theorem State.setHalted_halted (s : State) (v : Bool) : (s.setHalted v).halted = v := rfl
@[simp] theorem State.setHalted_platform (s : State) (v : Bool) : (s.setHalted v).platform = s.platform := rfl
@[simp] theorem State.setHalted_jsrPushOffset (s : State) (v : Bool) : (s.setHalted v).jsrPushOffset = s.jsrPushOffset := rfl

@[simp] theorem State.setPlatform_a (s : State) (v : Platform) : (s.setPlatform v).a = s.a := rfl
@[simp] theorem State.setPlatform_x (s : State) (v : Platform) : (s.setPlatform v).x = s.x := rfl
@[simp] theorem State.setPlatform_y (s : State) (v : Platform) : (s.setPlatform v).y = s.y := rfl
@[simp] theorem State.setPlatform_sp (s : State) (v : Platform) : (s.setPlatform v).sp = s.sp := rfl
@[simp] theorem State.setPlatform_pc (s : State) (v : Platform) : (s.setPlatform v).pc = s.pc := rfl
@[simp] theorem State.setPlatform_p (s : State) (v : Platform) : (s.setPlatform v).p = s.p := rfl
@[simp] theorem State.setPlatform_zr (s : State) (v : Platform) : (s.setPlatform v).zr = s.zr := rfl
@[simp] theorem State.setPlatform_nr (s : State) (v : Platform) : (s.setPlatform v).nr = s.nr := rfl
@[simp] theorem State.setPlatform_cr (s : State) (v : Platform) : (s.setPlatform v).cr = s.cr := rfl
@[simp] theorem State.setPlatform_clocks (s : State) (v : Platform) : (s.setPlatform v).clocks = s.clocks := rfl
@[simp] theorem State.setPlatform_nextStop (s : State) (v : Platform) : (s.setPlatform v).nextStop = s.nextStop := rfl
@[simp] theorem State.setPlatform_iface (s : State) (v : Platform) : (s.setPlatform v).iface = s.iface := rfl
@[simp] theorem State.setPlatform_halted (s : State) (v : Platform) : (s.setPlatform v).halted = s.halted := rfl
@[simp] theorem State.setPlatform_platform (s : State) (v : Platform) : (s.setPlatform v).platform = v := rfl
@[simp] theorem State.setPlatform_jsrPushOffset (s : State) (v : Platform) : (s.setPlatform v).jsrPushOffset = s.jsrPushOffset := rfl

@[simp] theorem State.setBus_a (s : State) (pl : Platform) (ifc : Iface) : (s.setBus pl ifc).a = s.a := rfl
@[simp] theorem State.setBus_x (s : State) (pl : Platform) (ifc : Iface) : (s.setBus pl ifc).x = s.x := rfl
@[simp] theorem State.setBus_y (s : State) (pl : Platform) (ifc : Iface) : (s.setBus pl ifc).y = s.y := rfl
@[simp] theorem State.setBus_sp (s : State) (pl : Platform) (ifc : Iface) : (s.setBus pl ifc).sp = s.sp := rfl
@[simp] theorem State.setBus_pc (s : State) (pl : Platform) (ifc : Iface) : (s.setBus pl ifc).pc = s.pc := rfl
@[simp] theorem State.setBus_p (s : State) (pl : Platform) (ifc : Iface) : (s.setBus pl ifc).p = s.p := rfl
@[simp] theorem State.setBus_zr (s : State) (pl : Platform) (ifc : Iface) : (s.setBus pl ifc).zr = s.zr := rfl
@[simp] theorem State.setBus_nr (s : State) (pl : Platform) (ifc : Iface) : (s.setBus pl ifc).nr = s.nr := rfl
@[simp] theorem State.setBus_cr (s : State) (pl : Platform) (ifc : Iface) : (s.setBus pl ifc).cr = s.cr := rfl
@[simp] theorem State.setBus_clocks (s : State) (pl : Platform) (ifc : Iface) : (s.setBus pl ifc).clocks = s.clocks := rfl
@[simp] theorem State.setBus_nextStop (s : State) (pl : Platform) (ifc : Iface) : (s.setBus pl ifc).nextStop = s.nextStop := rfl
@[simp] theorem State.setBus_iface (s : State) (pl : Platform) (ifc : Iface) : (s.setBus pl ifc).iface = ifc := rfl
@[simp] theorem State.setBus_halted (s : State) (pl : Platform) (ifc : Iface) : (s.setBus pl ifc).halted = s.halted := rfl
@[simp] theorem State.setBus_platform (s : State) (pl : Platform) (ifc : Iface) : (s.setBus pl ifc).platform = pl := rfl
@[simp] theorem State.setBus_jsrPushOffset (s : State) (pl : Platform) (ifc : Iface) : (s.setBus pl ifc).jsrPushOffset = s.jsrPushOffset := rfl

/-- Two states are equal when all their fields are. -/
theorem State.ext_fields {s t : State} (ha : s.a = t.a) (hx : s.x = t.x) (hy : s.y = t.y) (hsp : s.sp = t.sp)
    (hpc : s.pc = t.pc) (hp : s.p = t.p) (hzr : s.zr = t.zr) (hnr : s.nr = t.nr) (hcr : s.cr = t.cr)
    (hclk : s.clocks = t.clocks) (hns : s.nextStop = t.nextStop) (hif : s.iface = t.iface)
    (hh : s.halted = t.halted) (hpl : s.platform = t.platform) (hj : s.jsrPushOffset = t.jsrPushOffset) : s = t := by
  cases s; cases t; simp_all

end Sys2Proof.Machine
end

