-- ==== Sys2Proof/Laws/Flags.lean ====
section
/-! SUPPORT. Bytes of a word, bits of the status byte, the flag predicates after each write, and what each flag
computation leaves unchanged. -/
namespace Sys2Proof.Machine

theorem toNat_cat (h l : Byte) : (cat h l).toNat = h.toNat * 256 + l.toNat := by
  have hl : l.toNat < 2 ^ 8 := l.isLt
  rw [cat, BitVec.toNat_append, Nat.shiftLeft_eq, Nat.mul_comm, ← Nat.two_pow_add_eq_or_of_lt hl]

theorem toNat_hi8 (w : Addr) : (hi8 w).toNat = w.toNat / 256 := by
  have := w.isLt
  rw [hi8, BitVec.extractLsb'_toNat, Nat.shiftRight_eq_div_pow]
  omega

theorem toNat_lo8 (w : Addr) : (lo8 w).toNat = w.toNat % 256 := by
  simp [lo8]

@[simp] theorem cat_hi8_lo8 (w : Addr) : cat (hi8 w) (lo8 w) = w := by
  apply BitVec.eq_of_toNat_eq
  rw [toNat_cat, toNat_hi8, toNat_lo8]
  omega

@[simp] theorem hi8_cat (h l : Byte) : hi8 (cat h l) = h := by
  apply BitVec.eq_of_toNat_eq
  have := l.isLt
  rw [toNat_hi8, toNat_cat]
  omega

@[simp] theorem lo8_cat (h l : Byte) : lo8 (cat h l) = l := by
  apply BitVec.eq_of_toNat_eq
  have := l.isLt
  rw [toNat_lo8, toNat_cat]
  omega

/-- The bits of a byte after one bit is set. -/
theorem getLsbD_setBit (b : Byte) (i : Nat) (v : Bool) (j : Nat) (hi : i < 8) :
    (setBit b i v).getLsbD j = if j = i then v else b.getLsbD j := by
  unfold setBit
  by_cases hj : j < 8
  · cases v <;> interval_cases i <;> interval_cases j <;> simp
  · have hne : j ≠ i := by omega
    rw [if_neg hne, BitVec.getLsbD_of_ge _ _ (by omega), BitVec.getLsbD_of_ge _ _ (by omega)]

/-- The same for a bit read at an index below 8. -/
theorem getElem_setBit (b : Byte) (i : Nat) (v : Bool) (j : Nat) (hi : i < 8) (hj : j < 8) :
    (setBit b i v)[j] = if j = i then v else b[j] := by
  rw [← BitVec.getLsbD_eq_getElem hj, getLsbD_setBit b i v j hi, BitVec.getLsbD_eq_getElem hj]

/-- The bits of a byte that PLP and RTI load: B cleared, R set, the others as popped (R32). -/
theorem getLsbD_loaded (v : Byte) (j : Nat) :
    ((v &&& 0xEF#8) ||| 0x20#8).getLsbD j = if j = bitR then true else if j = bitB then false else v.getLsbD j := by
  by_cases hj : j < 8
  · interval_cases j <;> simp [bitR, bitB]
  · rw [BitVec.getLsbD_of_ge _ _ (by omega), BitVec.getLsbD_of_ge v _ (by omega)]
    have h1 : j ≠ bitR := by unfold bitR; omega
    simp [h1]

/-- The bits of the byte that is pushed: R set, B as given, the others as in `P` (R30). -/
theorem getLsbD_packedP (s : State) (b : Bool) (j : Nat) :
    (s.packedP b).getLsbD j = if j = bitR then true else if j = bitB then b else s.p.getLsbD j := by
  unfold State.packedP
  by_cases hj : j < 8
  · cases b <;> interval_cases j <;> simp [bitR, bitB]
  · rw [BitVec.getLsbD_of_ge _ _ (by omega), BitVec.getLsbD_of_ge s.p _ (by omega)]
    have h1 : j ≠ bitR := by unfold bitR; omega
    have h2 : j ≠ bitB := by unfold bitB; omega
    simp [h1, h2]

@[simp] theorem State.setV_a (s : State) (v : Bool) : (s.setV v).a = s.a := rfl
@[simp] theorem State.setV_x (s : State) (v : Bool) : (s.setV v).x = s.x := rfl
@[simp] theorem State.setV_y (s : State) (v : Bool) : (s.setV v).y = s.y := rfl
@[simp] theorem State.setV_sp (s : State) (v : Bool) : (s.setV v).sp = s.sp := rfl
@[simp] theorem State.setV_pc (s : State) (v : Bool) : (s.setV v).pc = s.pc := rfl
@[simp] theorem State.setV_zr (s : State) (v : Bool) : (s.setV v).zr = s.zr := rfl
@[simp] theorem State.setV_nr (s : State) (v : Bool) : (s.setV v).nr = s.nr := rfl
@[simp] theorem State.setV_cr (s : State) (v : Bool) : (s.setV v).cr = s.cr := rfl
@[simp] theorem State.setV_clocks (s : State) (v : Bool) : (s.setV v).clocks = s.clocks := rfl
@[simp] theorem State.setV_nextStop (s : State) (v : Bool) : (s.setV v).nextStop = s.nextStop := rfl
@[simp] theorem State.setV_iface (s : State) (v : Bool) : (s.setV v).iface = s.iface := rfl
@[simp] theorem State.setV_halted (s : State) (v : Bool) : (s.setV v).halted = s.halted := rfl
@[simp] theorem State.setV_platform (s : State) (v : Bool) : (s.setV v).platform = s.platform := rfl
@[simp] theorem State.setV_jsrPushOffset (s : State) (v : Bool) : (s.setV v).jsrPushOffset = s.jsrPushOffset := rfl
@[simp] theorem State.setD_a (s : State) (v : Bool) : (s.setD v).a = s.a := rfl
@[simp] theorem State.setD_x (s : State) (v : Bool) : (s.setD v).x = s.x := rfl
@[simp] theorem State.setD_y (s : State) (v : Bool) : (s.setD v).y = s.y := rfl
@[simp] theorem State.setD_sp (s : State) (v : Bool) : (s.setD v).sp = s.sp := rfl
@[simp] theorem State.setD_pc (s : State) (v : Bool) : (s.setD v).pc = s.pc := rfl
@[simp] theorem State.setD_zr (s : State) (v : Bool) : (s.setD v).zr = s.zr := rfl
@[simp] theorem State.setD_nr (s : State) (v : Bool) : (s.setD v).nr = s.nr := rfl
@[simp] theorem State.setD_cr (s : State) (v : Bool) : (s.setD v).cr = s.cr := rfl
@[simp] theorem State.setD_clocks (s : State) (v : Bool) : (s.setD v).clocks = s.clocks := rfl
@[simp] theorem State.setD_nextStop (s : State) (v : Bool) : (s.setD v).nextStop = s.nextStop := rfl
@[simp] theorem State.setD_iface (s : State) (v : Bool) : (s.setD v).iface = s.iface := rfl
@[simp] theorem State.setD_halted (s : State) (v : Bool) : (s.setD v).halted = s.halted := rfl
@[simp] theorem State.setD_platform (s : State) (v : Bool) : (s.setD v).platform = s.platform := rfl
@[simp] theorem State.setD_jsrPushOffset (s : State) (v : Bool) : (s.setD v).jsrPushOffset = s.jsrPushOffset := rfl
@[simp] theorem State.setI_a (s : State) (v : Bool) : (s.setI v).a = s.a := rfl
@[simp] theorem State.setI_x (s : State) (v : Bool) : (s.setI v).x = s.x := rfl
@[simp] theorem State.setI_y (s : State) (v : Bool) : (s.setI v).y = s.y := rfl
@[simp] theorem State.setI_sp (s : State) (v : Bool) : (s.setI v).sp = s.sp := rfl
@[simp] theorem State.setI_pc (s : State) (v : Bool) : (s.setI v).pc = s.pc := rfl
@[simp] theorem State.setI_zr (s : State) (v : Bool) : (s.setI v).zr = s.zr := rfl
@[simp] theorem State.setI_nr (s : State) (v : Bool) : (s.setI v).nr = s.nr := rfl
@[simp] theorem State.setI_cr (s : State) (v : Bool) : (s.setI v).cr = s.cr := rfl
@[simp] theorem State.setI_clocks (s : State) (v : Bool) : (s.setI v).clocks = s.clocks := rfl
@[simp] theorem State.setI_nextStop (s : State) (v : Bool) : (s.setI v).nextStop = s.nextStop := rfl
@[simp] theorem State.setI_iface (s : State) (v : Bool) : (s.setI v).iface = s.iface := rfl
@[simp] theorem State.setI_halted (s : State) (v : Bool) : (s.setI v).halted = s.halted := rfl
@[simp] theorem State.setI_platform (s : State) (v : Bool) : (s.setI v).platform = s.platform := rfl
@[simp] theorem State.setI_jsrPushOffset (s : State) (v : Bool) : (s.setI v).jsrPushOffset = s.jsrPushOffset := rfl
@[simp] theorem State.setZN_a (s : State) (v : Byte) : (s.setZN v).a = s.a := rfl
@[simp] theorem State.setZN_x (s : State) (v : Byte) : (s.setZN v).x = s.x := rfl
@[simp] theorem State.setZN_y (s : State) (v : Byte) : (s.setZN v).y = s.y := rfl
@[simp] theorem State.setZN_sp (s : State) (v : Byte) : (s.setZN v).sp = s.sp := rfl
@[simp] theorem State.setZN_pc (s : State) (v : Byte) : (s.setZN v).pc = s.pc := rfl
@[simp] theorem State.setZN_p (s : State) (v : Byte) : (s.setZN v).p = s.p := rfl
@[simp] theorem State.setZN_cr (s : State) (v : Byte) : (s.setZN v).cr = s.cr := rfl
@[simp] theorem State.setZN_clocks (s : State) (v : Byte) : (s.setZN v).clocks = s.clocks := rfl
@[simp] theorem State.setZN_nextStop (s : State) (v : Byte) : (s.setZN v).nextStop = s.nextStop := rfl
@[simp] theorem State.setZN_iface (s : State) (v : Byte) : (s.setZN v).iface = s.iface := rfl
@[simp] theorem State.setZN_halted (s : State) (v : Byte) : (s.setZN v).halted = s.halted := rfl
@[simp] theorem State.setZN_platform (s : State) (v : Byte) : (s.setZN v).platform = s.platform := rfl
@[simp] theorem State.setZN_jsrPushOffset (s : State) (v : Byte) : (s.setZN v).jsrPushOffset = s.jsrPushOffset := rfl
@[simp] theorem State.setZN_zr (s : State) (v : Byte) : (s.setZN v).zr = v := rfl
@[simp] theorem State.setZN_nr (s : State) (v : Byte) : (s.setZN v).nr = v := rfl
@[simp] theorem State.setV_p (s : State) (v : Bool) : (s.setV v).p = setBit s.p bitV v := rfl
@[simp] theorem State.setD_p (s : State) (v : Bool) : (s.setD v).p = setBit s.p bitD v := rfl
@[simp] theorem State.setI_p (s : State) (v : Bool) : (s.setI v).p = setBit s.p bitI v := rfl
@[simp] theorem State.resolveToP_a (s : State) : (s.resolveToP).a = s.a := rfl
@[simp] theorem State.resolveToP_x (s : State) : (s.resolveToP).x = s.x := rfl
@[simp] theorem State.resolveToP_y (s : State) : (s.resolveToP).y = s.y := rfl
@[simp] theorem State.resolveToP_sp (s : State) : (s.resolveToP).sp = s.sp := rfl
@[simp] theorem State.resolveToP_pc (s : State) : (s.resolveToP).pc = s.pc := rfl
@[simp] theorem State.resolveToP_zr (s : State) : (s.resolveToP).zr = s.zr := rfl
@[simp] theorem State.resolveToP_nr (s : State) : (s.resolveToP).nr = s.nr := rfl
@[simp] theorem State.resolveToP_cr (s : State) : (s.resolveToP).cr = s.cr := rfl
@[simp] theorem State.resolveToP_clocks (s : State) : (s.resolveToP).clocks = s.clocks := rfl
@[simp] theorem State.resolveToP_nextStop (s : State) : (s.resolveToP).nextStop = s.nextStop := rfl
@[simp] theorem State.resolveToP_iface (s : State) : (s.resolveToP).iface = s.iface := rfl
@[simp] theorem State.resolveToP_halted (s : State) : (s.resolveToP).halted = s.halted := rfl
@[simp] theorem State.resolveToP_platform (s : State) : (s.resolveToP).platform = s.platform := rfl
@[simp] theorem State.resolveToP_jsrPushOffset (s : State) : (s.resolveToP).jsrPushOffset = s.jsrPushOffset := rfl
@[simp] theorem State.resolveFromP_a (s : State) : (s.resolveFromP).a = s.a := rfl
@[simp] theorem State.resolveFromP_x (s : State) : (s.resolveFromP).x = s.x := rfl
@[simp] theorem State.resolveFromP_y (s : State) : (s.resolveFromP).y = s.y := rfl
@[simp] theorem State.resolveFromP_sp (s : State) : (s.resolveFromP).sp = s.sp := rfl
@[simp] theorem State.resolveFromP_pc (s : State) : (s.resolveFromP).pc = s.pc := rfl
@[simp] theorem State.resolveFromP_p (s : State) : (s.resolveFromP).p = s.p := rfl
@[simp] theorem State.resolveFromP_clocks (s : State) : (s.resolveFromP).clocks = s.clocks := rfl
@[simp] theorem State.resolveFromP_nextStop (s : State) : (s.resolveFromP).nextStop = s.nextStop := rfl
@[simp] theorem State.resolveFromP_iface (s : State) : (s.resolveFromP).iface = s.iface := rfl
@[simp] theorem State.resolveFromP_halted (s : State) : (s.resolveFromP).halted = s.halted := rfl
@[simp] theorem State.resolveFromP_platform (s : State) : (s.resolveFromP).platform = s.platform := rfl
@[simp] theorem State.resolveFromP_jsrPushOffset (s : State) : (s.resolveFromP).jsrPushOffset = s.jsrPushOffset := rfl
@[simp] theorem State.loadStatus_a (s : State) (v : Byte) : (s.loadStatus v).a = s.a := rfl
@[simp] theorem State.loadStatus_x (s : State) (v : Byte) : (s.loadStatus v).x = s.x := rfl
@[simp] theorem State.loadStatus_y (s : State) (v : Byte) : (s.loadStatus v).y = s.y := rfl
@[simp] theorem State.loadStatus_sp (s : State) (v : Byte) : (s.loadStatus v).sp = s.sp := rfl
@[simp] theorem State.loadStatus_pc (s : State) (v : Byte) : (s.loadStatus v).pc = s.pc := rfl
@[simp] theorem State.loadStatus_clocks (s : State) (v : Byte) : (s.loadStatus v).clocks = s.clocks := rfl
@[simp] theorem State.loadStatus_nextStop (s : State) (v : Byte) : (s.loadStatus v).nextStop = s.nextStop := rfl
@[simp] theorem State.loadStatus_iface (s : State) (v : Byte) : (s.loadStatus v).iface = s.iface := rfl
@[simp] theorem State.loadStatus_halted (s : State) (v : Byte) : (s.loadStatus v).halted = s.halted := rfl
@[simp] theorem State.loadStatus_platform (s : State) (v : Byte) : (s.loadStatus v).platform = s.platform := rfl
@[simp] theorem State.loadStatus_jsrPushOffset (s : State) (v : Byte) : (s.loadStatus v).jsrPushOffset = s.jsrPushOffset := rfl
@[simp] theorem State.loadStatus_p (s : State) (v : Byte) : (s.loadStatus v).p = (v &&& 0xEF#8) ||| 0x20#8 := rfl
@[simp] theorem addCore_x (m : Byte) (s : State) : (addCore m s).x = s.x := rfl
@[simp] theorem addCore_y (m : Byte) (s : State) : (addCore m s).y = s.y := rfl
@[simp] theorem addCore_sp (m : Byte) (s : State) : (addCore m s).sp = s.sp := rfl
@[simp] theorem addCore_pc (m : Byte) (s : State) : (addCore m s).pc = s.pc := rfl
@[simp] theorem addCore_clocks (m : Byte) (s : State) : (addCore m s).clocks = s.clocks := rfl
@[simp] theorem addCore_nextStop (m : Byte) (s : State) : (addCore m s).nextStop = s.nextStop := rfl
@[simp] theorem addCore_iface (m : Byte) (s : State) : (addCore m s).iface = s.iface := rfl
@[simp] theorem addCore_halted (m : Byte) (s : State) : (addCore m s).halted = s.halted := rfl
@[simp] theorem addCore_platform (m : Byte) (s : State) : (addCore m s).platform = s.platform := rfl
@[simp] theorem addCore_jsrPushOffset (m : Byte) (s : State) : (addCore m s).jsrPushOffset = s.jsrPushOffset := rfl
@[simp] theorem compareReg_a (r m : Byte) (s : State) : (compareReg r m s).a = s.a := rfl
@[simp] theorem compareReg_x (r m : Byte) (s : State) : (compareReg r m s).x = s.x := rfl
@[simp] theorem compareReg_y (r m : Byte) (s : State) : (compareReg r m s).y = s.y := rfl
@[simp] theorem compareReg_sp (r m : Byte) (s : State) : (compareReg r m s).sp = s.sp := rfl
@[simp] theorem compareReg_pc (r m : Byte) (s : State) : (compareReg r m s).pc = s.pc := rfl
@[simp] theorem compareReg_p (r m : Byte) (s : State) : (compareReg r m s).p = s.p := rfl
@[simp] theorem compareReg_clocks (r m : Byte) (s : State) : (compareReg r m s).clocks = s.clocks := rfl
@[simp] theorem compareReg_nextStop (r m : Byte) (s : State) : (compareReg r m s).nextStop = s.nextStop := rfl
@[simp] theorem compareReg_iface (r m : Byte) (s : State) : (compareReg r m s).iface = s.iface := rfl
@[simp] theorem compareReg_halted (r m : Byte) (s : State) : (compareReg r m s).halted = s.halted := rfl
@[simp] theorem compareReg_platform (r m : Byte) (s : State) : (compareReg r m s).platform = s.platform := rfl
@[simp] theorem compareReg_jsrPushOffset (r m : Byte) (s : State) : (compareReg r m s).jsrPushOffset = s.jsrPushOffset := rfl
@[simp] theorem bitTest_a (m : Byte) (s : State) : (bitTest m s).a = s.a := rfl
@[simp] theorem bitTest_x (m : Byte) (s : State) : (bitTest m s).x = s.x := rfl
@[simp] theorem bitTest_y (m : Byte) (s : State) : (bitTest m s).y = s.y := rfl
@[simp] theorem bitTest_sp (m : Byte) (s : State) : (bitTest m s).sp = s.sp := rfl
@[simp] theorem bitTest_pc (m : Byte) (s : State) : (bitTest m s).pc = s.pc := rfl
@[simp] theorem bitTest_cr (m : Byte) (s : State) : (bitTest m s).cr = s.cr := rfl
@[simp] theorem bitTest_clocks (m : Byte) (s : State) : (bitTest m s).clocks = s.clocks := rfl
@[simp] theorem bitTest_nextStop (m : Byte) (s : State) : (bitTest m s).nextStop = s.nextStop := rfl
@[simp] theorem bitTest_iface (m : Byte) (s : State) : (bitTest m s).iface = s.iface := rfl
@[simp] theorem bitTest_halted (m : Byte) (s : State) : (bitTest m s).halted = s.halted := rfl
@[simp] theorem bitTest_platform (m : Byte) (s : State) : (bitTest m s).platform = s.platform := rfl
@[simp] theorem bitTest_jsrPushOffset (m : Byte) (s : State) : (bitTest m s).jsrPushOffset = s.jsrPushOffset := rfl
@[simp] theorem aslOp_a (v : Byte) (s : State) : ((aslOp v s).2).a = s.a := rfl
@[simp] theorem aslOp_x (v : Byte) (s : State) : ((aslOp v s).2).x = s.x := rfl
@[simp] theorem aslOp_y (v : Byte) (s : State) : ((aslOp v s).2).y = s.y := rfl
@[simp] theorem aslOp_sp (v : Byte) (s : State) : ((aslOp v s).2).sp = s.sp := rfl
@[simp] theorem aslOp_pc (v : Byte) (s : State) : ((aslOp v s).2).pc = s.pc := rfl
@[simp] theorem aslOp_p (v : Byte) (s : State) : ((aslOp v s).2).p = s.p := rfl
@[simp] theorem aslOp_clocks (v : Byte) (s : State) : ((aslOp v s).2).clocks = s.clocks := rfl
@[simp] theorem aslOp_nextStop (v : Byte) (s : State) : ((aslOp v s).2).nextStop = s.nextStop := rfl
@[simp] theorem aslOp_iface (v : Byte) (s : State) : ((aslOp v s).2).iface = s.iface := rfl
@[simp] theorem aslOp_halted (v : Byte) (s : State) : ((aslOp v s).2).halted = s.halted := rfl
@[simp] theorem aslOp_platform (v : Byte) (s : State) : ((aslOp v s).2).platform = s.platform := rfl
@[simp] theorem aslOp_jsrPushOffset (v : Byte) (s : State) : ((aslOp v s).2).jsrPushOffset = s.jsrPushOffset := rfl
@[simp] theorem lsrOp_a (v : Byte) (s : State) : ((lsrOp v s).2).a = s.a := rfl
@[simp] theorem lsrOp_x (v : Byte) (s : State) : ((lsrOp v s).2).x = s.x := rfl
@[simp] theorem lsrOp_y (v : Byte) (s : State) : ((lsrOp v s).2).y = s.y := rfl
@[simp] theorem lsrOp_sp (v : Byte) (s : State) : ((lsrOp v s).2).sp = s.sp := rfl
@[simp] theorem lsrOp_pc (v : Byte) (s : State) : ((lsrOp v s).2).pc = s.pc := rfl
@[simp] theorem lsrOp_p (v : Byte) (s : State) : ((lsrOp v s).2).p = s.p := rfl
@[simp] theorem lsrOp_clocks (v : Byte) (s : State) : ((lsrOp v s).2).clocks = s.clocks := rfl
@[simp] theorem lsrOp_nextStop (v : Byte) (s : State) : ((lsrOp v s).2).nextStop = s.nextStop := rfl
@[simp] theorem lsrOp_iface (v : Byte) (s : State) : ((lsrOp v s).2).iface = s.iface := rfl
@[simp] theorem lsrOp_halted (v : Byte) (s : State) : ((lsrOp v s).2).halted = s.halted := rfl
@[simp] theorem lsrOp_platform (v : Byte) (s : State) : ((lsrOp v s).2).platform = s.platform := rfl
@[simp] theorem lsrOp_jsrPushOffset (v : Byte) (s : State) : ((lsrOp v s).2).jsrPushOffset = s.jsrPushOffset := rfl
@[simp] theorem rolOp_a (v : Byte) (s : State) : ((rolOp v s).2).a = s.a := rfl
@[simp] theorem rolOp_x (v : Byte) (s : State) : ((rolOp v s).2).x = s.x := rfl
@[simp] theorem rolOp_y (v : Byte) (s : State) : ((rolOp v s).2).y = s.y := rfl
@[simp] theorem rolOp_sp (v : Byte) (s : State) : ((rolOp v s).2).sp = s.sp := rfl
@[simp] theorem rolOp_pc (v : Byte) (s : State) : ((rolOp v s).2).pc = s.pc := rfl
@[simp] theorem rolOp_p (v : Byte) (s : State) : ((rolOp v s).2).p = s.p := rfl
@[simp] theorem rolOp_clocks (v : Byte) (s : State) : ((rolOp v s).2).clocks = s.clocks := rfl
@[simp] theorem rolOp_nextStop (v : Byte) (s : State) : ((rolOp v s).2).nextStop = s.nextStop := rfl
@[simp] theorem rolOp_iface (v : Byte) (s : State) : ((rolOp v s).2).iface = s.iface := rfl
@[simp] theorem rolOp_halted (v : Byte) (s : State) : ((rolOp v s).2).halted = s.halted := rfl
@[simp] theorem rolOp_platform (v : Byte) (s : State) : ((rolOp v s).2).platform = s.platform := rfl
@[simp] theorem rolOp_jsrPushOffset (v : Byte) (s : State) : ((rolOp v s).2).jsrPushOffset = s.jsrPushOffset := rfl
@[simp] theorem rorOp_a (v : Byte) (s : State) : ((rorOp v s).2).a = s.a := rfl
@[simp] theorem rorOp_x (v : Byte) (s : State) : ((rorOp v s).2).x = s.x := rfl
@[simp] theorem rorOp_y (v : Byte) (s : State) : ((rorOp v s).2).y = s.y := rfl
@[simp] theorem rorOp_sp (v : Byte) (s : State) : ((rorOp v s).2).sp = s.sp := rfl
@[simp] theorem rorOp_pc (v : Byte) (s : State) : ((rorOp v s).2).pc = s.pc := rfl
@[simp] theorem rorOp_p (v : Byte) (s : State) : ((rorOp v s).2).p = s.p := rfl
@[simp] theorem rorOp_clocks (v : Byte) (s : State) : ((rorOp v s).2).clocks = s.clocks := rfl
@[simp] theorem rorOp_nextStop (v : Byte) (s : State) : ((rorOp v s).2).nextStop = s.nextStop := rfl
@[simp] theorem rorOp_iface (v : Byte) (s : State) : ((rorOp v s).2).iface = s.iface := rfl
@[simp] theorem rorOp_halted (v : Byte) (s : State) : ((rorOp v s).2).halted = s.halted := rfl
@[simp] theorem rorOp_platform (v : Byte) (s : State) : ((rorOp v s).2).platform = s.platform := rfl
@[simp] theorem rorOp_jsrPushOffset (v : Byte) (s : State) : ((rorOp v s).2).jsrPushOffset = s.jsrPushOffset := rfl
@[simp] theorem incOp_a (v : Byte) (s : State) : ((incOp v s).2).a = s.a := rfl
@[simp] theorem incOp_x (v : Byte) (s : State) : ((incOp v s).2).x = s.x := rfl
@[simp] theorem incOp_y (v : Byte) (s : State) : ((incOp v s).2).y = s.y := rfl
@[simp] theorem incOp_sp (v : Byte) (s : State) : ((incOp v s).2).sp = s.sp := rfl
@[simp] theorem incOp_pc (v : Byte) (s : State) : ((incOp v s).2).pc = s.pc := rfl
@[simp] theorem incOp_p (v : Byte) (s : State) : ((incOp v s).2).p = s.p := rfl
@[simp] theorem incOp_cr (v : Byte) (s : State) : ((incOp v s).2).cr = s.cr := rfl
@[simp] theorem incOp_clocks (v : Byte) (s : State) : ((incOp v s).2).clocks = s.clocks := rfl
@[simp] theorem incOp_nextStop (v : Byte) (s : State) : ((incOp v s).2).nextStop = s.nextStop := rfl
@[simp] theorem incOp_iface (v : Byte) (s : State) : ((incOp v s).2).iface = s.iface := rfl
@[simp] theorem incOp_halted (v : Byte) (s : State) : ((incOp v s).2).halted = s.halted := rfl
@[simp] theorem incOp_platform (v : Byte) (s : State) : ((incOp v s).2).platform = s.platform := rfl
@[simp] theorem incOp_jsrPushOffset (v : Byte) (s : State) : ((incOp v s).2).jsrPushOffset = s.jsrPushOffset := rfl
@[simp] theorem decOp_a (v : Byte) (s : State) : ((decOp v s).2).a = s.a := rfl
@[simp] theorem decOp_x (v : Byte) (s : State) : ((decOp v s).2).x = s.x := rfl
@[simp] theorem decOp_y (v : Byte) (s : State) : ((decOp v s).2).y = s.y := rfl
@[simp] theorem decOp_sp (v : Byte) (s : State) : ((decOp v s).2).sp = s.sp := rfl
@[simp] theorem decOp_pc (v : Byte) (s : State) : ((decOp v s).2).pc = s.pc := rfl
@[simp] theorem decOp_p (v : Byte) (s : State) : ((decOp v s).2).p = s.p := rfl
@[simp] theorem decOp_cr (v : Byte) (s : State) : ((decOp v s).2).cr = s.cr := rfl
@[simp] theorem decOp_clocks (v : Byte) (s : State) : ((decOp v s).2).clocks = s.clocks := rfl
@[simp] theorem decOp_nextStop (v : Byte) (s : State) : ((decOp v s).2).nextStop = s.nextStop := rfl
@[simp] theorem decOp_iface (v : Byte) (s : State) : ((decOp v s).2).iface = s.iface := rfl
@[simp] theorem decOp_halted (v : Byte) (s : State) : ((decOp v s).2).halted = s.halted := rfl
@[simp] theorem decOp_platform (v : Byte) (s : State) : ((decOp v s).2).platform = s.platform := rfl
@[simp] theorem decOp_jsrPushOffset (v : Byte) (s : State) : ((decOp v s).2).jsrPushOffset = s.jsrPushOffset := rfl

@[simp] theorem addCore_a (m : Byte) (s : State) : (addCore m s).a = addResult s.a m s.cr := rfl
@[simp] theorem addCore_zr (m : Byte) (s : State) : (addCore m s).zr = addResult s.a m s.cr := rfl
@[simp] theorem addCore_nr (m : Byte) (s : State) : (addCore m s).nr = addResult s.a m s.cr := rfl
@[simp] theorem addCore_cr (m : Byte) (s : State) : (addCore m s).cr = addCarry s.a m s.cr := rfl
@[simp] theorem addCore_p (m : Byte) (s : State) :
    (addCore m s).p = setBit s.p bitV (addOverflow s.a m (addResult s.a m s.cr)) := rfl

/-- The live flags of the status byte after one of them is written. -/
theorem State.vFlag_setV (s : State) (v : Bool) : (s.setV v).vFlag = v := by
  rw [State.vFlag, State.setV_p, getLsbD_setBit _ _ _ _ (by decide), if_pos rfl]

theorem State.dFlag_setD (s : State) (v : Bool) : (s.setD v).dFlag = v := by
  rw [State.dFlag, State.setD_p, getLsbD_setBit _ _ _ _ (by decide), if_pos rfl]

theorem State.iFlag_setI (s : State) (v : Bool) : (s.setI v).iFlag = v := by
  rw [State.iFlag, State.setI_p, getLsbD_setBit _ _ _ _ (by decide), if_pos rfl]

/-- `resolveToP` leaves every live bit of `P` unchanged and writes the predicates into N, Z and C (R30). -/
theorem State.resolveToP_bits (s : State) (j : Nat) :
    s.resolveToP.p.getLsbD j =
      if j = bitC then s.cFlag else if j = bitZ then s.zFlag else if j = bitN then s.nFlag else s.p.getLsbD j := by
  rw [State.resolveToP, State.setP_p, getLsbD_setBit _ _ _ _ (by decide), getLsbD_setBit _ _ _ _ (by decide),
    getLsbD_setBit _ _ _ _ (by decide)]

theorem State.resolveFromP_zFlag (s : State) : s.resolveFromP.zFlag = s.p.getLsbD bitZ := by
  unfold State.resolveFromP State.zFlag
  cases h : s.p.getLsbD bitZ <;> simp

theorem State.resolveFromP_nFlag (s : State) : s.resolveFromP.nFlag = s.p.getLsbD bitN := by
  unfold State.resolveFromP State.nFlag
  cases h : s.p.getLsbD bitN <;> simp

theorem State.resolveFromP_cFlag (s : State) : s.resolveFromP.cFlag = s.p.getLsbD bitC := rfl

/-- The flags that PLP and RTI load are the bits of the byte popped (R32, R253, R276). -/
theorem State.loadStatus_nFlag (s : State) (v : Byte) : (s.loadStatus v).nFlag = v.getLsbD bitN := by
  rw [State.loadStatus, State.resolveFromP_nFlag]
  exact (getLsbD_loaded v bitN).trans rfl

theorem State.loadStatus_zFlag (s : State) (v : Byte) : (s.loadStatus v).zFlag = v.getLsbD bitZ := by
  rw [State.loadStatus, State.resolveFromP_zFlag]
  exact (getLsbD_loaded v bitZ).trans rfl

theorem State.loadStatus_cFlag (s : State) (v : Byte) : (s.loadStatus v).cFlag = v.getLsbD bitC := by
  rw [State.loadStatus, State.resolveFromP_cFlag]
  exact (getLsbD_loaded v bitC).trans rfl

theorem State.loadStatus_bits (s : State) (v : Byte) (j : Nat) :
    (s.loadStatus v).p.getLsbD j = if j = bitR then true else if j = bitB then false else v.getLsbD j :=
  getLsbD_loaded v j

end Sys2Proof.Machine
end

