-- ==== Sys2Proof/Laws/Decode.lean ====
section
/-! SUPPORT. The decoder and the table: what each format's row builds, and what three bytes decode to. -/
namespace Sys2Proof

/-- Three bytes never run out: decoding them fails only on an opcode byte without a row (30_encoding.md R100, R102). -/
theorem decode_three_error {b0 b1 b2 : Byte} {e : DecodeError} (h : decode [b0, b1, b2] = .error e) :
    opTable b0 = none ∧ e = .illegalOpcode b0 := by
  unfold decode at h
  cases ht : opTable b0 with
  | none => simp [ht] at h; exact ⟨rfl, h.symm⟩
  | some f => cases f <;> simp [ht] at h

theorem decode_illegal {b0 : Byte} (rest : List Byte) (h : opTable b0 = none) :
    decode (b0 :: rest) = .error (.illegalOpcode b0) := by
  simp [decode, h]

theorem decode_f1 {b0 : Byte} {i : Instr} (rest : List Byte) (h : opTable b0 = some (.f1 i)) :
    decode (b0 :: rest) = .ok (i, rest) := by
  simp [decode, h]

theorem decode_f2 {b0 : Byte} {mk : Byte → Instr} (b1 : Byte) (rest : List Byte) (h : opTable b0 = some (.f2 mk)) :
    decode (b0 :: b1 :: rest) = .ok (mk b1, rest) := by
  simp [decode, h]

theorem decode_f3 {b0 : Byte} {mk : Addr → Instr} (b1 b2 : Byte) (rest : List Byte)
    (h : opTable b0 = some (.f3 mk)) : decode (b0 :: b1 :: b2 :: rest) = .ok (mk (Machine.cat b2 b1), rest) := by
  simp [decode, h]

end Sys2Proof
end

