-- ==== Sys2Proof/Laws/Memory.lean ====
section
/-! SUPPORT. The laws of sparse lists, storage, page pointers and the platform's transition functions: read after
write, every other place unchanged, and the canonical form kept by every operation. -/
namespace Sys2Proof.Machine

section Sparse
variable {α : Type} [DecidableEq α] (d : Nat → α)

omit [DecidableEq α] in
theorem Sparse.get_erase_same (l : List (Nat × α)) (k : Nat) : Sparse.get d (Sparse.erase k l) k = d k := by
  induction l with
  | nil => rfl
  | cons c l ih =>
    obtain ⟨k', v'⟩ := c
    by_cases h : k' = k <;> simp [Sparse.erase, Sparse.get, h, ih]

omit [DecidableEq α] in
theorem Sparse.get_erase_other (l : List (Nat × α)) {k j : Nat} (h : j ≠ k) :
    Sparse.get d (Sparse.erase k l) j = Sparse.get d l j := by
  induction l with
  | nil => rfl
  | cons c l ih =>
    obtain ⟨k', v'⟩ := c
    by_cases hk : k' = k
    · subst hk
      simp [Sparse.erase, Sparse.get, ih, Ne.symm h]
    · simp only [Sparse.erase, if_neg hk, Sparse.get, ih]

omit [DecidableEq α] in
theorem Sparse.get_insert_same (l : List (Nat × α)) (k : Nat) (v : α) (h : ∀ c ∈ l, c.1 ≠ k) :
    Sparse.get d (Sparse.insert k v l) k = v := by
  induction l with
  | nil => simp [Sparse.insert, Sparse.get]
  | cons c l ih =>
    obtain ⟨k', v'⟩ := c
    by_cases hlt : k < k'
    · simp [Sparse.insert, Sparse.get, hlt]
    · have hne : k' ≠ k := h (k', v') (by simp)
      simp [Sparse.insert, Sparse.get, hlt, hne, ih (fun c hc => h c (by simp [hc]))]

omit [DecidableEq α] in
theorem Sparse.get_insert_other (l : List (Nat × α)) {k j : Nat} (v : α) (h : j ≠ k) :
    Sparse.get d (Sparse.insert k v l) j = Sparse.get d l j := by
  induction l with
  | nil => simp [Sparse.insert, Sparse.get, Ne.symm h]
  | cons c l ih =>
    obtain ⟨k', v'⟩ := c
    by_cases hlt : k < k'
    · simp [Sparse.insert, Sparse.get, hlt, Ne.symm h]
    · simp only [Sparse.insert, if_neg hlt, Sparse.get, ih]

omit [DecidableEq α] in
theorem Sparse.mem_erase {l : List (Nat × α)} {k : Nat} {c : Nat × α} :
    c ∈ Sparse.erase k l ↔ c ∈ l ∧ c.1 ≠ k := by
  induction l with
  | nil => simp [Sparse.erase]
  | cons e l ih =>
    obtain ⟨k', v'⟩ := e
    by_cases hk : k' = k
    · subst hk
      simp only [Sparse.erase, if_pos, ih, List.mem_cons]
      constructor
      · rintro ⟨h1, h2⟩; exact ⟨.inr h1, h2⟩
      · rintro ⟨rfl | h1, h2⟩
        · exact absurd rfl h2
        · exact ⟨h1, h2⟩
    · simp only [Sparse.erase, if_neg hk, List.mem_cons, ih]
      constructor
      · rintro (rfl | ⟨h1, h2⟩)
        · exact ⟨.inl rfl, hk⟩
        · exact ⟨.inr h1, h2⟩
      · rintro ⟨rfl | h1, h2⟩
        · exact .inl rfl
        · exact .inr ⟨h1, h2⟩

omit [DecidableEq α] in
theorem Sparse.mem_insert {l : List (Nat × α)} {k : Nat} {v : α} {c : Nat × α} :
    c ∈ Sparse.insert k v l ↔ c = (k, v) ∨ c ∈ l := by
  induction l with
  | nil => simp [Sparse.insert]
  | cons e l ih =>
    obtain ⟨k', v'⟩ := e
    by_cases hlt : k < k'
    · simp [Sparse.insert, hlt]
    · simp only [Sparse.insert, if_neg hlt, List.mem_cons, ih]
      tauto

/-- Read after write. -/
theorem Sparse.get_set_same (l : List (Nat × α)) (k : Nat) (v : α) : Sparse.get d (Sparse.set d l k v) k = v := by
  unfold Sparse.set
  split
  · next h => rw [Sparse.get_erase_same, h]
  · exact Sparse.get_insert_same d _ k v (fun c hc => (Sparse.mem_erase.mp hc).2)

/-- A write leaves every other key alone. -/
theorem Sparse.get_set_other (l : List (Nat × α)) {k j : Nat} (v : α) (h : j ≠ k) :
    Sparse.get d (Sparse.set d l k v) j = Sparse.get d l j := by
  unfold Sparse.set
  split
  · exact Sparse.get_erase_other d l h
  · rw [Sparse.get_insert_other d _ v h, Sparse.get_erase_other d l h]

theorem Sparse.wf_cons {k : Nat} {v : α} {l : List (Nat × α)} :
    Sparse.wf d ((k, v) :: l) = true ↔ (∀ c ∈ l, k < c.1) ∧ v ≠ d k ∧ Sparse.wf d l = true := by
  simp only [Sparse.wf, Bool.and_eq_true, List.all_eq_true, decide_eq_true_eq, and_assoc]

theorem Sparse.wf_erase (l : List (Nat × α)) (k : Nat) (h : Sparse.wf d l = true) :
    Sparse.wf d (Sparse.erase k l) = true := by
  induction l with
  | nil => rfl
  | cons e l ih =>
    obtain ⟨k', v'⟩ := e
    obtain ⟨h1, h2, h3⟩ := (Sparse.wf_cons d).mp h
    by_cases hk : k' = k
    · simpa [Sparse.erase, hk] using ih h3
    · simp only [Sparse.erase, if_neg hk]
      exact (Sparse.wf_cons d).mpr ⟨fun c hc => h1 c (Sparse.mem_erase.mp hc).1, h2, ih h3⟩

theorem Sparse.wf_insert (l : List (Nat × α)) (k : Nat) (v : α) (hv : v ≠ d k) (hk : ∀ c ∈ l, c.1 ≠ k)
    (h : Sparse.wf d l = true) : Sparse.wf d (Sparse.insert k v l) = true := by
  induction l with
  | nil => simp [Sparse.insert, Sparse.wf, hv]
  | cons e l ih =>
    obtain ⟨k', v'⟩ := e
    obtain ⟨h1, h2, h3⟩ := (Sparse.wf_cons d).mp h
    by_cases hlt : k < k'
    · simp only [Sparse.insert, if_pos hlt]
      refine (Sparse.wf_cons d).mpr ⟨fun c hc => ?_, hv, h⟩
      rcases List.mem_cons.mp hc with rfl | hc
      · exact hlt
      · exact lt_trans hlt (h1 c hc)
    · have hne : k' ≠ k := hk (k', v') (by simp)
      simp only [Sparse.insert, if_neg hlt]
      refine (Sparse.wf_cons d).mpr ⟨fun c hc => ?_, h2, ih (fun c hc => hk c (by simp [hc])) h3⟩
      rcases Sparse.mem_insert.mp hc with rfl | hc
      · show k' < k
        omega
      · exact h1 c hc

/-- Every write keeps the canonical form. -/
theorem Sparse.wf_set (l : List (Nat × α)) (k : Nat) (v : α) (h : Sparse.wf d l = true) :
    Sparse.wf d (Sparse.set d l k v) = true := by
  unfold Sparse.set
  split
  · exact Sparse.wf_erase d l k h
  · next hv =>
    exact Sparse.wf_insert d _ k v hv (fun c hc => (Sparse.mem_erase.mp hc).2) (Sparse.wf_erase d l k h)

theorem Sparse.mem_set {l : List (Nat × α)} {k : Nat} {v : α} {c : Nat × α} (h : c ∈ Sparse.set d l k v) :
    c = (k, v) ∨ c ∈ l := by
  unfold Sparse.set at h
  split at h
  · exact .inr (Sparse.mem_erase.mp h).1
  · rcases Sparse.mem_insert.mp h with h | h
    · exact .inl h
    · exact .inr (Sparse.mem_erase.mp h).1

end Sparse

@[simp] theorem Memory.read_write_same (m : Memory) (k : Nat) (v : Byte) :
    Memory.read (Memory.write m k v) k = v := Sparse.get_set_same _ m k v

theorem Memory.read_write_other (m : Memory) {k j : Nat} (v : Byte) (h : j ≠ k) :
    Memory.read (Memory.write m k v) j = Memory.read m j := Sparse.get_set_other _ m v h

/-- A write keeps the canonical form of storage. -/
theorem Memory.wf_write (m : Memory) (k : Nat) (v : Byte) (h : Memory.wf m = true) :
    Memory.wf (Memory.write m k v) = true := Sparse.wf_set _ m k v h

theorem Memory.wf_writeAll (l : List Host.Cell) (m : Memory) (h : Memory.wf m = true) :
    Memory.wf (Memory.writeAll m l) = true := by
  induction l generalizing m with
  | nil => exact h
  | cons c l ih => exact ih _ (Memory.wf_write m c.1 c.2 h)

theorem isRamPage_iff (p : Byte) : isRamPage p = true ↔ p = 0x00#8 ∨ p = 0x01#8 := by
  unfold isRamPage Config.stackPage
  rw [Bool.or_eq_true, decide_eq_true_iff, decide_eq_true_iff]

theorem PageTable.wf_set (t : PageTable) (p : Byte) (q : Nat) (hp : isRamPage p = false)
    (h : PageTable.wf t = true) : PageTable.wf (Sparse.set Config.unmappedPage t p.toNat q) = true := by
  simp only [PageTable.wf, Bool.and_eq_true, List.all_eq_true, decide_eq_true_eq, Bool.not_eq_true'] at h ⊢
  refine ⟨Sparse.wf_set _ t _ _ h.1, fun c hc => ?_⟩
  rcases Sparse.mem_set _ hc with rfl | hc
  · exact ⟨p.isLt, by simpa using hp⟩
  · exact h.2 c hc

theorem Platform.wf_iff (pl : Platform) :
    pl.wf = true ↔ Memory.wf pl.store = true ∧ PageTable.wf pl.map = true := by
  simp [Platform.wf]

@[simp] theorem Platform.poke_map (pl : Platform) (a : Addr) (v : Byte) : (pl.poke a v).map = pl.map := rfl
@[simp] theorem Platform.poke_registers (pl : Platform) (a : Addr) (v : Byte) :
    (pl.poke a v).registers = pl.registers := rfl
@[simp] theorem Platform.poke_readIo (pl : Platform) (a : Addr) (v : Byte) : (pl.poke a v).readIo = pl.readIo := rfl
@[simp] theorem Platform.poke_writeIo (pl : Platform) (a : Addr) (v : Byte) :
    (pl.poke a v).writeIo = pl.writeIo := rfl
@[simp] theorem Platform.poke_store (pl : Platform) (a : Addr) (v : Byte) :
    (pl.poke a v).store = Memory.write pl.store (pl.locate a) v := rfl
@[simp] theorem Platform.poke_shown (pl : Platform) (a : Addr) (v : Byte) (p : Byte) :
    (pl.poke a v).shown p = pl.shown p := rfl
@[simp] theorem Platform.poke_locate (pl : Platform) (a b : Addr) (v : Byte) :
    (pl.poke a v).locate b = pl.locate b := rfl
@[simp] theorem Platform.poke_sideEffectFree (pl : Platform) (a : Addr) (v : Byte) (p : Byte) :
    (pl.poke a v).sideEffectFree p = pl.sideEffectFree p := rfl
@[simp] theorem Platform.poke_plainWrite (pl : Platform) (a : Addr) (v : Byte) (p : Byte) :
    (pl.poke a v).plainWrite p = pl.plainWrite p := rfl

/-- Read after write, through the page pointers. -/
@[simp] theorem Platform.peek_poke_same (pl : Platform) (a : Addr) (v : Byte) : (pl.poke a v).peek a = v := by
  simp [Platform.peek]

/-- A store leaves every byte of other storage alone. -/
theorem Platform.peek_poke_other (pl : Platform) {a b : Addr} (v : Byte) (h : pl.locate b ≠ pl.locate a) :
    (pl.poke a v).peek b = pl.peek b := by
  simpa [Platform.peek] using Memory.read_write_other pl.store v h

theorem Platform.wf_poke (pl : Platform) (a : Addr) (v : Byte) (h : pl.wf = true) : (pl.poke a v).wf = true := by
  rw [Platform.wf_iff] at h ⊢
  exact ⟨Memory.wf_write _ _ _ h.1, h.2⟩

theorem Platform.wf_repoint (pl : Platform) (p : MappablePage) (q : Nat) (h : pl.wf = true) :
    (pl.repoint p q).wf = true := by
  rw [Platform.wf_iff] at h ⊢
  exact ⟨h.1, PageTable.wf_set _ _ _ p.property h.2⟩

theorem Platform.wf_repointAll (l : List (MappablePage × Nat)) (pl : Platform) (h : pl.wf = true) :
    (pl.repointAll l).wf = true := by
  induction l generalizing pl with
  | nil => exact h
  | cons c l ih => exact ih _ (Platform.wf_repoint pl c.1 c.2 h)

theorem Platform.wf_apply (pl : Platform) (c : PlatformChange) (h : pl.wf = true) : (pl.apply c).wf = true := by
  rw [Platform.wf_iff] at h ⊢
  exact ⟨Memory.wf_writeAll _ _ h.1, h.2⟩

theorem Platform.wf_reply (pl : Platform) (r : DeviceReply) (h : pl.wf = true) : (pl.reply r).wf = true :=
  Platform.wf_repointAll _ _ (Platform.wf_apply _ _ h)

/-- Everything `busRead` can do (R62, R67): a read of a side-effect-free page changes nothing; a device read keeps the
canonical form and never clears the NMI flag. -/
theorem busRead_plain (pl : Platform) (ifc : Iface) (clk : Nat) (a : Addr) (h : pl.sideEffectFree (hi8 a) = true) :
    busRead pl ifc clk a = (pl.peek a, pl, ifc) := by
  simp [busRead, h]

theorem busRead_wf (pl : Platform) (ifc : Iface) (clk : Nat) (a : Addr) (h : pl.wf = true) :
    (busRead pl ifc clk a).2.1.wf = true := by
  unfold busRead
  split
  · exact h
  · exact Platform.wf_reply _ _ h

theorem busRead_nmi (pl : Platform) (ifc : Iface) (clk : Nat) (a : Addr) (h : ifc.nmiPending = true) :
    (busRead pl ifc clk a).2.2.nmiPending = true := by
  unfold busRead
  split <;> simp [Iface.reply, h]

theorem busWrite_plain (pl : Platform) (ifc : Iface) (clk : Nat) (a : Addr) (v : Byte)
    (h : pl.plainWrite (hi8 a) = true) : busWrite pl ifc clk a v = (pl.poke a v, ifc) := by
  simp [busWrite, h]

theorem busWrite_wf (pl : Platform) (ifc : Iface) (clk : Nat) (a : Addr) (v : Byte) (h : pl.wf = true) :
    (busWrite pl ifc clk a v).1.wf = true := by
  unfold busWrite
  split
  · exact Platform.wf_poke _ _ _ h
  · exact Platform.wf_reply _ _ h

theorem busWrite_nmi (pl : Platform) (ifc : Iface) (clk : Nat) (a : Addr) (v : Byte) (h : ifc.nmiPending = true) :
    (busWrite pl ifc clk a v).2.nmiPending = true := by
  unfold busWrite
  split <;> simp [Iface.reply, h]

end Sys2Proof.Machine
end

