-- ==== Sys2Proof/Laws/Ops.lean ====
section
/-! SUPPORT. What each named operation does and what it leaves unchanged. -/
namespace Sys2Proof.Machine

@[simp] theorem memRead_a (a : Addr) (s : State) : ((memRead a s).2).a = s.a := rfl
@[simp] theorem memRead_x (a : Addr) (s : State) : ((memRead a s).2).x = s.x := rfl
@[simp] theorem memRead_y (a : Addr) (s : State) : ((memRead a s).2).y = s.y := rfl
@[simp] theorem memRead_sp (a : Addr) (s : State) : ((memRead a s).2).sp = s.sp := rfl
@[simp] theorem memRead_pc (a : Addr) (s : State) : ((memRead a s).2).pc = s.pc := rfl
@[simp] theorem memRead_p (a : Addr) (s : State) : ((memRead a s).2).p = s.p := rfl
@[simp] theorem memRead_zr (a : Addr) (s : State) : ((memRead a s).2).zr = s.zr := rfl
@[simp] theorem memRead_nr (a : Addr) (s : State) : ((memRead a s).2).nr = s.nr := rfl
@[simp] theorem memRead_cr (a : Addr) (s : State) : ((memRead a s).2).cr = s.cr := rfl
@[simp] theorem memRead_clocks (a : Addr) (s : State) : ((memRead a s).2).clocks = s.clocks := rfl
@[simp] theorem memRead_nextStop (a : Addr) (s : State) : ((memRead a s).2).nextStop = s.nextStop := rfl
@[simp] theorem memRead_halted (a : Addr) (s : State) : ((memRead a s).2).halted = s.halted := rfl
@[simp] theorem memRead_jsrPushOffset (a : Addr) (s : State) : ((memRead a s).2).jsrPushOffset = s.jsrPushOffset := rfl
@[simp] theorem memWrite_a (a : Addr) (v : Byte) (s : State) : (memWrite a v s).a = s.a := rfl
@[simp] theorem memWrite_x (a : Addr) (v : Byte) (s : State) : (memWrite a v s).x = s.x := rfl
@[simp] theorem memWrite_y (a : Addr) (v : Byte) (s : State) : (memWrite a v s).y = s.y := rfl
@[simp] theorem memWrite_sp (a : Addr) (v : Byte) (s : State) : (memWrite a v s).sp = s.sp := rfl
@[simp] theorem memWrite_pc (a : Addr) (v : Byte) (s : State) : (memWrite a v s).pc = s.pc := rfl
@[simp] theorem memWrite_p (a : Addr) (v : Byte) (s : State) : (memWrite a v s).p = s.p := rfl
@[simp] theorem memWrite_zr (a : Addr) (v : Byte) (s : State) : (memWrite a v s).zr = s.zr := rfl
@[simp] theorem memWrite_nr (a : Addr) (v : Byte) (s : State) : (memWrite a v s).nr = s.nr := rfl
@[simp] theorem memWrite_cr (a : Addr) (v : Byte) (s : State) : (memWrite a v s).cr = s.cr := rfl
@[simp] theorem memWrite_clocks (a : Addr) (v : Byte) (s : State) : (memWrite a v s).clocks = s.clocks := rfl
@[simp] theorem memWrite_nextStop (a : Addr) (v : Byte) (s : State) : (memWrite a v s).nextStop = s.nextStop := rfl
@[simp] theorem memWrite_halted (a : Addr) (v : Byte) (s : State) : (memWrite a v s).halted = s.halted := rfl
@[simp] theorem memWrite_jsrPushOffset (a : Addr) (v : Byte) (s : State) : (memWrite a v s).jsrPushOffset = s.jsrPushOffset := rfl
@[simp] theorem memRead2_a (a : Addr) (s : State) : ((memRead2 a s).2).a = s.a := rfl
@[simp] theorem memRead2_x (a : Addr) (s : State) : ((memRead2 a s).2).x = s.x := rfl
@[simp] theorem memRead2_y (a : Addr) (s : State) : ((memRead2 a s).2).y = s.y := rfl
@[simp] theorem memRead2_sp (a : Addr) (s : State) : ((memRead2 a s).2).sp = s.sp := rfl
@[simp] theorem memRead2_pc (a : Addr) (s : State) : ((memRead2 a s).2).pc = s.pc := rfl
@[simp] theorem memRead2_p (a : Addr) (s : State) : ((memRead2 a s).2).p = s.p := rfl
@[simp] theorem memRead2_zr (a : Addr) (s : State) : ((memRead2 a s).2).zr = s.zr := rfl
@[simp] theorem memRead2_nr (a : Addr) (s : State) : ((memRead2 a s).2).nr = s.nr := rfl
@[simp] theorem memRead2_cr (a : Addr) (s : State) : ((memRead2 a s).2).cr = s.cr := rfl
@[simp] theorem memRead2_clocks (a : Addr) (s : State) : ((memRead2 a s).2).clocks = s.clocks := rfl
@[simp] theorem memRead2_nextStop (a : Addr) (s : State) : ((memRead2 a s).2).nextStop = s.nextStop := rfl
@[simp] theorem memRead2_halted (a : Addr) (s : State) : ((memRead2 a s).2).halted = s.halted := rfl
@[simp] theorem memRead2_jsrPushOffset (a : Addr) (s : State) : ((memRead2 a s).2).jsrPushOffset = s.jsrPushOffset := rfl
@[simp] theorem zpWrite_a (z v : Byte) (s : State) : (zpWrite z v s).a = s.a := rfl
@[simp] theorem zpWrite_x (z v : Byte) (s : State) : (zpWrite z v s).x = s.x := rfl
@[simp] theorem zpWrite_y (z v : Byte) (s : State) : (zpWrite z v s).y = s.y := rfl
@[simp] theorem zpWrite_sp (z v : Byte) (s : State) : (zpWrite z v s).sp = s.sp := rfl
@[simp] theorem zpWrite_pc (z v : Byte) (s : State) : (zpWrite z v s).pc = s.pc := rfl
@[simp] theorem zpWrite_p (z v : Byte) (s : State) : (zpWrite z v s).p = s.p := rfl
@[simp] theorem zpWrite_zr (z v : Byte) (s : State) : (zpWrite z v s).zr = s.zr := rfl
@[simp] theorem zpWrite_nr (z v : Byte) (s : State) : (zpWrite z v s).nr = s.nr := rfl
@[simp] theorem zpWrite_cr (z v : Byte) (s : State) : (zpWrite z v s).cr = s.cr := rfl
@[simp] theorem zpWrite_clocks (z v : Byte) (s : State) : (zpWrite z v s).clocks = s.clocks := rfl
@[simp] theorem zpWrite_nextStop (z v : Byte) (s : State) : (zpWrite z v s).nextStop = s.nextStop := rfl
@[simp] theorem zpWrite_iface (z v : Byte) (s : State) : (zpWrite z v s).iface = s.iface := rfl
@[simp] theorem zpWrite_halted (z v : Byte) (s : State) : (zpWrite z v s).halted = s.halted := rfl
@[simp] theorem zpWrite_jsrPushOffset (z v : Byte) (s : State) : (zpWrite z v s).jsrPushOffset = s.jsrPushOffset := rfl
@[simp] theorem stackWrite_a (z v : Byte) (s : State) : (stackWrite z v s).a = s.a := rfl
@[simp] theorem stackWrite_x (z v : Byte) (s : State) : (stackWrite z v s).x = s.x := rfl
@[simp] theorem stackWrite_y (z v : Byte) (s : State) : (stackWrite z v s).y = s.y := rfl
@[simp] theorem stackWrite_sp (z v : Byte) (s : State) : (stackWrite z v s).sp = s.sp := rfl
@[simp] theorem stackWrite_pc (z v : Byte) (s : State) : (stackWrite z v s).pc = s.pc := rfl
@[simp] theorem stackWrite_p (z v : Byte) (s : State) : (stackWrite z v s).p = s.p := rfl
@[simp] theorem stackWrite_zr (z v : Byte) (s : State) : (stackWrite z v s).zr = s.zr := rfl
@[simp] theorem stackWrite_nr (z v : Byte) (s : State) : (stackWrite z v s).nr = s.nr := rfl
@[simp] theorem stackWrite_cr (z v : Byte) (s : State) : (stackWrite z v s).cr = s.cr := rfl
@[simp] theorem stackWrite_clocks (z v : Byte) (s : State) : (stackWrite z v s).clocks = s.clocks := rfl
@[simp] theorem stackWrite_nextStop (z v : Byte) (s : State) : (stackWrite z v s).nextStop = s.nextStop := rfl
@[simp] theorem stackWrite_iface (z v : Byte) (s : State) : (stackWrite z v s).iface = s.iface := rfl
@[simp] theorem stackWrite_halted (z v : Byte) (s : State) : (stackWrite z v s).halted = s.halted := rfl
@[simp] theorem stackWrite_jsrPushOffset (z v : Byte) (s : State) : (stackWrite z v s).jsrPushOffset = s.jsrPushOffset := rfl
@[simp] theorem push_a (v : Byte) (s : State) : (push v s).a = s.a := rfl
@[simp] theorem push_x (v : Byte) (s : State) : (push v s).x = s.x := rfl
@[simp] theorem push_y (v : Byte) (s : State) : (push v s).y = s.y := rfl
@[simp] theorem push_pc (v : Byte) (s : State) : (push v s).pc = s.pc := rfl
@[simp] theorem push_p (v : Byte) (s : State) : (push v s).p = s.p := rfl
@[simp] theorem push_zr (v : Byte) (s : State) : (push v s).zr = s.zr := rfl
@[simp] theorem push_nr (v : Byte) (s : State) : (push v s).nr = s.nr := rfl
@[simp] theorem push_cr (v : Byte) (s : State) : (push v s).cr = s.cr := rfl
@[simp] theorem push_clocks (v : Byte) (s : State) : (push v s).clocks = s.clocks := rfl
@[simp] theorem push_nextStop (v : Byte) (s : State) : (push v s).nextStop = s.nextStop := rfl
@[simp] theorem push_iface (v : Byte) (s : State) : (push v s).iface = s.iface := rfl
@[simp] theorem push_halted (v : Byte) (s : State) : (push v s).halted = s.halted := rfl
@[simp] theorem push_jsrPushOffset (v : Byte) (s : State) : (push v s).jsrPushOffset = s.jsrPushOffset := rfl
@[simp] theorem pop_a (s : State) : ((pop s).2).a = s.a := rfl
@[simp] theorem pop_x (s : State) : ((pop s).2).x = s.x := rfl
@[simp] theorem pop_y (s : State) : ((pop s).2).y = s.y := rfl
@[simp] theorem pop_pc (s : State) : ((pop s).2).pc = s.pc := rfl
@[simp] theorem pop_p (s : State) : ((pop s).2).p = s.p := rfl
@[simp] theorem pop_zr (s : State) : ((pop s).2).zr = s.zr := rfl
@[simp] theorem pop_nr (s : State) : ((pop s).2).nr = s.nr := rfl
@[simp] theorem pop_cr (s : State) : ((pop s).2).cr = s.cr := rfl
@[simp] theorem pop_clocks (s : State) : ((pop s).2).clocks = s.clocks := rfl
@[simp] theorem pop_nextStop (s : State) : ((pop s).2).nextStop = s.nextStop := rfl
@[simp] theorem pop_iface (s : State) : ((pop s).2).iface = s.iface := rfl
@[simp] theorem pop_halted (s : State) : ((pop s).2).halted = s.halted := rfl
@[simp] theorem pop_platform (s : State) : ((pop s).2).platform = s.platform := rfl
@[simp] theorem pop_jsrPushOffset (s : State) : ((pop s).2).jsrPushOffset = s.jsrPushOffset := rfl
@[simp] theorem pushAddr_a (w : Addr) (s : State) : (pushAddr w s).a = s.a := rfl
@[simp] theorem pushAddr_x (w : Addr) (s : State) : (pushAddr w s).x = s.x := rfl
@[simp] theorem pushAddr_y (w : Addr) (s : State) : (pushAddr w s).y = s.y := rfl
@[simp] theorem pushAddr_pc (w : Addr) (s : State) : (pushAddr w s).pc = s.pc := rfl
@[simp] theorem pushAddr_p (w : Addr) (s : State) : (pushAddr w s).p = s.p := rfl
@[simp] theorem pushAddr_zr (w : Addr) (s : State) : (pushAddr w s).zr = s.zr := rfl
@[simp] theorem pushAddr_nr (w : Addr) (s : State) : (pushAddr w s).nr = s.nr := rfl
@[simp] theorem pushAddr_cr (w : Addr) (s : State) : (pushAddr w s).cr = s.cr := rfl
@[simp] theorem pushAddr_clocks (w : Addr) (s : State) : (pushAddr w s).clocks = s.clocks := rfl
@[simp] theorem pushAddr_nextStop (w : Addr) (s : State) : (pushAddr w s).nextStop = s.nextStop := rfl
@[simp] theorem pushAddr_iface (w : Addr) (s : State) : (pushAddr w s).iface = s.iface := rfl
@[simp] theorem pushAddr_halted (w : Addr) (s : State) : (pushAddr w s).halted = s.halted := rfl
@[simp] theorem pushAddr_jsrPushOffset (w : Addr) (s : State) : (pushAddr w s).jsrPushOffset = s.jsrPushOffset := rfl
@[simp] theorem popAddr_a (s : State) : ((popAddr s).2).a = s.a := rfl
@[simp] theorem popAddr_x (s : State) : ((popAddr s).2).x = s.x := rfl
@[simp] theorem popAddr_y (s : State) : ((popAddr s).2).y = s.y := rfl
@[simp] theorem popAddr_pc (s : State) : ((popAddr s).2).pc = s.pc := rfl
@[simp] theorem popAddr_p (s : State) : ((popAddr s).2).p = s.p := rfl
@[simp] theorem popAddr_zr (s : State) : ((popAddr s).2).zr = s.zr := rfl
@[simp] theorem popAddr_nr (s : State) : ((popAddr s).2).nr = s.nr := rfl
@[simp] theorem popAddr_cr (s : State) : ((popAddr s).2).cr = s.cr := rfl
@[simp] theorem popAddr_clocks (s : State) : ((popAddr s).2).clocks = s.clocks := rfl
@[simp] theorem popAddr_nextStop (s : State) : ((popAddr s).2).nextStop = s.nextStop := rfl
@[simp] theorem popAddr_iface (s : State) : ((popAddr s).2).iface = s.iface := rfl
@[simp] theorem popAddr_halted (s : State) : ((popAddr s).2).halted = s.halted := rfl
@[simp] theorem popAddr_platform (s : State) : ((popAddr s).2).platform = s.platform := rfl
@[simp] theorem popAddr_jsrPushOffset (s : State) : ((popAddr s).2).jsrPushOffset = s.jsrPushOffset := rfl
@[simp] theorem fetchByte_a (a : Addr) (s : State) : ((fetchByte a s).2).a = s.a := by unfold fetchByte; split <;> rfl
@[simp] theorem fetchByte_x (a : Addr) (s : State) : ((fetchByte a s).2).x = s.x := by unfold fetchByte; split <;> rfl
@[simp] theorem fetchByte_y (a : Addr) (s : State) : ((fetchByte a s).2).y = s.y := by unfold fetchByte; split <;> rfl
@[simp] theorem fetchByte_sp (a : Addr) (s : State) : ((fetchByte a s).2).sp = s.sp := by unfold fetchByte; split <;> rfl
@[simp] theorem fetchByte_pc (a : Addr) (s : State) : ((fetchByte a s).2).pc = s.pc := by unfold fetchByte; split <;> rfl
@[simp] theorem fetchByte_p (a : Addr) (s : State) : ((fetchByte a s).2).p = s.p := by unfold fetchByte; split <;> rfl
@[simp] theorem fetchByte_zr (a : Addr) (s : State) : ((fetchByte a s).2).zr = s.zr := by unfold fetchByte; split <;> rfl
@[simp] theorem fetchByte_nr (a : Addr) (s : State) : ((fetchByte a s).2).nr = s.nr := by unfold fetchByte; split <;> rfl
@[simp] theorem fetchByte_cr (a : Addr) (s : State) : ((fetchByte a s).2).cr = s.cr := by unfold fetchByte; split <;> rfl
@[simp] theorem fetchByte_clocks (a : Addr) (s : State) : ((fetchByte a s).2).clocks = s.clocks := by unfold fetchByte; split <;> rfl
@[simp] theorem fetchByte_nextStop (a : Addr) (s : State) : ((fetchByte a s).2).nextStop = s.nextStop := by unfold fetchByte; split <;> rfl
@[simp] theorem fetchByte_halted (a : Addr) (s : State) : ((fetchByte a s).2).halted = s.halted := by unfold fetchByte; split <;> rfl
@[simp] theorem fetchByte_jsrPushOffset (a : Addr) (s : State) : ((fetchByte a s).2).jsrPushOffset = s.jsrPushOffset := by unfold fetchByte; split <;> rfl
@[simp] theorem fetch_a (s : State) : ((fetch s).2).a = s.a := by simp [fetch]
@[simp] theorem fetch_x (s : State) : ((fetch s).2).x = s.x := by simp [fetch]
@[simp] theorem fetch_y (s : State) : ((fetch s).2).y = s.y := by simp [fetch]
@[simp] theorem fetch_sp (s : State) : ((fetch s).2).sp = s.sp := by simp [fetch]
@[simp] theorem fetch_pc (s : State) : ((fetch s).2).pc = s.pc := by simp [fetch]
@[simp] theorem fetch_p (s : State) : ((fetch s).2).p = s.p := by simp [fetch]
@[simp] theorem fetch_zr (s : State) : ((fetch s).2).zr = s.zr := by simp [fetch]
@[simp] theorem fetch_nr (s : State) : ((fetch s).2).nr = s.nr := by simp [fetch]
@[simp] theorem fetch_cr (s : State) : ((fetch s).2).cr = s.cr := by simp [fetch]
@[simp] theorem fetch_clocks (s : State) : ((fetch s).2).clocks = s.clocks := by simp [fetch]
@[simp] theorem fetch_nextStop (s : State) : ((fetch s).2).nextStop = s.nextStop := by simp [fetch]
@[simp] theorem fetch_halted (s : State) : ((fetch s).2).halted = s.halted := by simp [fetch]
@[simp] theorem fetch_jsrPushOffset (s : State) : ((fetch s).2).jsrPushOffset = s.jsrPushOffset := by simp [fetch]
@[simp] theorem interruptEntry_a (v : Addr) (b : Bool) (s : State) : (interruptEntry v b s).a = s.a := by simp [interruptEntry]
@[simp] theorem interruptEntry_x (v : Addr) (b : Bool) (s : State) : (interruptEntry v b s).x = s.x := by simp [interruptEntry]
@[simp] theorem interruptEntry_y (v : Addr) (b : Bool) (s : State) : (interruptEntry v b s).y = s.y := by simp [interruptEntry]
@[simp] theorem interruptEntry_zr (v : Addr) (b : Bool) (s : State) : (interruptEntry v b s).zr = s.zr := by simp [interruptEntry]
@[simp] theorem interruptEntry_nr (v : Addr) (b : Bool) (s : State) : (interruptEntry v b s).nr = s.nr := by simp [interruptEntry]
@[simp] theorem interruptEntry_cr (v : Addr) (b : Bool) (s : State) : (interruptEntry v b s).cr = s.cr := by simp [interruptEntry]
@[simp] theorem interruptEntry_nextStop (v : Addr) (b : Bool) (s : State) : (interruptEntry v b s).nextStop = s.nextStop := by simp [interruptEntry]
@[simp] theorem interruptEntry_halted (v : Addr) (b : Bool) (s : State) : (interruptEntry v b s).halted = s.halted := by simp [interruptEntry]
@[simp] theorem interruptEntry_jsrPushOffset (v : Addr) (b : Bool) (s : State) : (interruptEntry v b s).jsrPushOffset = s.jsrPushOffset := by simp [interruptEntry]
@[simp] theorem interruptReturn_a (s : State) : (interruptReturn s).a = s.a := by simp [interruptReturn]
@[simp] theorem interruptReturn_x (s : State) : (interruptReturn s).x = s.x := by simp [interruptReturn]
@[simp] theorem interruptReturn_y (s : State) : (interruptReturn s).y = s.y := by simp [interruptReturn]
@[simp] theorem interruptReturn_clocks (s : State) : (interruptReturn s).clocks = s.clocks := by simp [interruptReturn]
@[simp] theorem interruptReturn_nextStop (s : State) : (interruptReturn s).nextStop = s.nextStop := by simp [interruptReturn]
@[simp] theorem interruptReturn_iface (s : State) : (interruptReturn s).iface = s.iface := by simp [interruptReturn]
@[simp] theorem interruptReturn_halted (s : State) : (interruptReturn s).halted = s.halted := by simp [interruptReturn]
@[simp] theorem interruptReturn_platform (s : State) : (interruptReturn s).platform = s.platform := by simp [interruptReturn]
@[simp] theorem interruptReturn_jsrPushOffset (s : State) : (interruptReturn s).jsrPushOffset = s.jsrPushOffset := by simp [interruptReturn]

@[simp] theorem push_sp (v : Byte) (s : State) : (push v s).sp = s.sp - 1#8 := rfl
@[simp] theorem pop_sp (s : State) : (pop s).2.sp = s.sp + 1#8 := rfl
@[simp] theorem pushAddr_sp (w : Addr) (s : State) : (pushAddr w s).sp = s.sp - 1#8 - 1#8 := rfl
@[simp] theorem popAddr_sp (s : State) : (popAddr s).2.sp = s.sp + 1#8 + 1#8 := rfl
@[simp] theorem push_platform (v : Byte) (s : State) :
    (push v s).platform = s.platform.poke (stackAddr s.sp) v := rfl
@[simp] theorem zpWrite_platform (z v : Byte) (s : State) :
    (zpWrite z v s).platform = s.platform.poke (zpAddr z) v := rfl
@[simp] theorem pushAddr_platform (w : Addr) (s : State) :
    (pushAddr w s).platform = (s.platform.poke (stackAddr s.sp) (hi8 w)).poke (stackAddr (s.sp - 1#8)) (lo8 w) := rfl

/-- A bus read of a side-effect-free page is `Peek` and changes nothing (R67). -/
theorem memRead_plain (a : Addr) (s : State) (h : s.platform.sideEffectFree (hi8 a) = true) :
    memRead a s = (s.platform.peek a, s) := by
  unfold memRead
  rw [busRead_plain _ _ _ _ h]
  rfl

/-- A bus write to a plain page is a plain store (R64). -/
theorem memWrite_plain (a : Addr) (v : Byte) (s : State) (h : s.platform.plainWrite (hi8 a) = true) :
    memWrite a v s = s.setPlatform (s.platform.poke a v) := by
  unfold memWrite
  rw [busWrite_plain _ _ _ _ _ h]
  rfl

/-- `Fetch` and `MemRead` agree everywhere (R67). -/
theorem fetchByte_eq_memRead (a : Addr) (s : State) : fetchByte a s = memRead a s := by
  unfold fetchByte
  split
  · next h => rw [memRead_plain a s h]
  · rfl

/-- Three fetch reads from side-effect-free pages are three `Peek`s and change nothing (R66). -/
theorem fetch_plain (s : State) (h0 : s.platform.sideEffectFree (hi8 s.pc) = true)
    (h1 : s.platform.sideEffectFree (hi8 (s.pc + 1#16)) = true)
    (h2 : s.platform.sideEffectFree (hi8 (s.pc + 2#16)) = true) :
    fetch s = ((s.platform.peek s.pc, s.platform.peek (s.pc + 1#16), s.platform.peek (s.pc + 2#16)), s) := by
  simp [fetch, fetchByte, h0, h1, h2]

theorem memRead_wf (a : Addr) (s : State) (h : s.platform.wf = true) : (memRead a s).2.platform.wf = true :=
  busRead_wf _ _ _ _ h

theorem memWrite_wf (a : Addr) (v : Byte) (s : State) (h : s.platform.wf = true) :
    (memWrite a v s).platform.wf = true := busWrite_wf _ _ _ _ _ h

theorem memRead2_wf (a : Addr) (s : State) (h : s.platform.wf = true) : (memRead2 a s).2.platform.wf = true :=
  memRead_wf _ _ (memRead_wf _ _ h)

theorem push_wf (v : Byte) (s : State) (h : s.platform.wf = true) : (push v s).platform.wf = true :=
  Platform.wf_poke _ _ _ h

theorem memRead_nmi (a : Addr) (s : State) (h : s.iface.nmiPending = true) :
    (memRead a s).2.iface.nmiPending = true := busRead_nmi _ _ _ _ h

theorem memWrite_nmi (a : Addr) (v : Byte) (s : State) (h : s.iface.nmiPending = true) :
    (memWrite a v s).iface.nmiPending = true := busWrite_nmi _ _ _ _ _ h

theorem memRead2_nmi (a : Addr) (s : State) (h : s.iface.nmiPending = true) :
    (memRead2 a s).2.iface.nmiPending = true := memRead_nmi _ _ (memRead_nmi _ _ h)

theorem fetch_wf (s : State) (h : s.platform.wf = true) : (fetch s).2.platform.wf = true := by
  simp only [fetch, fetchByte_eq_memRead]
  exact memRead_wf _ _ (memRead_wf _ _ (memRead_wf _ _ h))

theorem fetch_nmi (s : State) (h : s.iface.nmiPending = true) : (fetch s).2.iface.nmiPending = true := by
  simp only [fetch, fetchByte_eq_memRead]
  exact memRead_nmi _ _ (memRead_nmi _ _ (memRead_nmi _ _ h))

/-- Pages 0 and `STACK_PAGE` always show `RAM`, and are plain (R64). -/
@[simp] theorem Platform.locate_ram (pl : Platform) (p o : Byte) (h : isRamPage p = true) :
    pl.locate (cat p o) = p.toNat * 256 + o.toNat := by
  simp [Platform.locate, Platform.shown, h]

@[simp] theorem locate_zpAddr (pl : Platform) (z : Byte) : pl.locate (zpAddr z) = z.toNat := by
  simpa [zpAddr] using pl.locate_ram 0x00 z rfl

@[simp] theorem locate_stackAddr (pl : Platform) (o : Byte) : pl.locate (stackAddr o) = 256 + o.toNat := by
  simpa [stackAddr, Config.stackPage] using pl.locate_ram 0x01 o rfl

theorem stackAddr_locate_inj (pl : Platform) {o o' : Byte} (h : o ≠ o') :
    pl.locate (stackAddr o) ≠ pl.locate (stackAddr o') := by
  simp only [locate_stackAddr, ne_eq]
  intro h'
  exact h (BitVec.eq_of_toNat_eq (by omega))

/-- What is popped right after a push is what was pushed, and the pointer is back (R240, R241). -/
theorem pop_push (v : Byte) (s : State) : (pop (push v s)).1 = v ∧ (pop (push v s)).2.sp = s.sp := by
  constructor
  · simp [pop, stackRead]
  · simp

/-- The state an interrupt entry reads its vector from: the three bytes pushed, PC not yet written (R305). -/
theorem interruptEntry_eq (vector : Addr) (b : Bool) (s : State) :
    interruptEntry vector b s =
      (((memRead2 vector (push ((pushAddr s.pc s).resolveToP.packedP b) (pushAddr s.pc s).resolveToP)).2.setPc
        (memRead2 vector (push ((pushAddr s.pc s).resolveToP.packedP b) (pushAddr s.pc s).resolveToP)).1).setI
          true).setClocks (s.clocks + Config.intCycles) := by
  simp only [interruptEntry, State.setI_clocks, State.setPc_clocks, memRead2_clocks, push_clocks,
    State.resolveToP_clocks, pushAddr_clocks]

@[simp] theorem interruptEntry_sp (v : Addr) (b : Bool) (s : State) :
    (interruptEntry v b s).sp = s.sp - 1#8 - 1#8 - 1#8 := by
  simp [interruptEntry]

@[simp] theorem interruptEntry_clocks (v : Addr) (b : Bool) (s : State) :
    (interruptEntry v b s).clocks = s.clocks + 7 := by
  simp [interruptEntry, Config.intCycles]

@[simp] theorem interruptEntry_p (v : Addr) (b : Bool) (s : State) :
    (interruptEntry v b s).p = setBit s.resolveToP.p bitI true := by
  simp [interruptEntry, State.setI, State.resolveToP, State.nFlag, State.zFlag, State.cFlag]

/-- Through a side-effect-free vector page an entry is one update: three bytes stored, PC from the vector (R305, R67). -/
theorem interruptEntry_plain (v : Addr) (b : Bool) (s : State) (h : s.platform.sideEffectFree (hi8 v) = true)
    (h' : s.platform.sideEffectFree (hi8 (v + 1#16)) = true) :
    interruptEntry v b s =
      let pl := ((s.platform.poke (stackAddr s.sp) (hi8 s.pc)).poke (stackAddr (s.sp - 1#8)) (lo8 s.pc)).poke
        (stackAddr (s.sp - 1#8 - 1#8)) (s.resolveToP.packedP b)
      { s with
        sp := s.sp - 1#8 - 1#8 - 1#8
        pc := cat (pl.peek (v + 1#16)) (pl.peek v)
        p := setBit s.resolveToP.p bitI true
        clocks := s.clocks + 7
        platform := pl } := by
  apply State.ext <;>
    simp [interruptEntry, memRead2, memRead_plain, h, h', State.setI, State.resolveToP, State.nFlag, State.zFlag,
      State.cFlag, State.packedP, Config.intCycles]

/-- The return as one update: flags from the first byte popped, PC from the two after it (R276). -/
theorem interruptReturn_eq (s : State) :
    interruptReturn s = { s.loadStatus (s.platform.peek (stackAddr (s.sp + 1#8))) with
      sp := s.sp + 1#8 + 1#8 + 1#8
      pc := cat (s.platform.peek (stackAddr (s.sp + 1#8 + 1#8 + 1#8)))
        (s.platform.peek (stackAddr (s.sp + 1#8 + 1#8))) } := rfl

end Sys2Proof.Machine
end

