-- ==== Sys2Proof/Laws/Operands.lean ====
section
/-! SUPPORT. What operand access and the execution templates do and what they leave unchanged. -/
namespace Sys2Proof.Machine

@[simp] theorem readMem_a (o : MemOperand) (s : State) : ((readMem o s).2).a = s.a := by unfold readMem; split <;> rfl
@[simp] theorem readMem_x (o : MemOperand) (s : State) : ((readMem o s).2).x = s.x := by unfold readMem; split <;> rfl
@[simp] theorem readMem_y (o : MemOperand) (s : State) : ((readMem o s).2).y = s.y := by unfold readMem; split <;> rfl
@[simp] theorem readMem_sp (o : MemOperand) (s : State) : ((readMem o s).2).sp = s.sp := by unfold readMem; split <;> rfl
@[simp] theorem readMem_pc (o : MemOperand) (s : State) : ((readMem o s).2).pc = s.pc := by unfold readMem; split <;> rfl
@[simp] theorem readMem_p (o : MemOperand) (s : State) : ((readMem o s).2).p = s.p := by unfold readMem; split <;> rfl
@[simp] theorem readMem_zr (o : MemOperand) (s : State) : ((readMem o s).2).zr = s.zr := by unfold readMem; split <;> rfl
@[simp] theorem readMem_nr (o : MemOperand) (s : State) : ((readMem o s).2).nr = s.nr := by unfold readMem; split <;> rfl
@[simp] theorem readMem_cr (o : MemOperand) (s : State) : ((readMem o s).2).cr = s.cr := by unfold readMem; split <;> rfl
@[simp] theorem readMem_clocks (o : MemOperand) (s : State) : ((readMem o s).2).clocks = s.clocks := by unfold readMem; split <;> rfl
@[simp] theorem readMem_nextStop (o : MemOperand) (s : State) : ((readMem o s).2).nextStop = s.nextStop := by unfold readMem; split <;> rfl
@[simp] theorem readMem_halted (o : MemOperand) (s : State) : ((readMem o s).2).halted = s.halted := by unfold readMem; split <;> rfl
@[simp] theorem readMem_jsrPushOffset (o : MemOperand) (s : State) : ((readMem o s).2).jsrPushOffset = s.jsrPushOffset := by unfold readMem; split <;> rfl
@[simp] theorem readOperand_a (o : ReadOperand) (s : State) : ((readOperand o s).2).a = s.a := by cases o <;> simp [readOperand]
@[simp] theorem readOperand_x (o : ReadOperand) (s : State) : ((readOperand o s).2).x = s.x := by cases o <;> simp [readOperand]
@[simp] theorem readOperand_y (o : ReadOperand) (s : State) : ((readOperand o s).2).y = s.y := by cases o <;> simp [readOperand]
@[simp] theorem readOperand_sp (o : ReadOperand) (s : State) : ((readOperand o s).2).sp = s.sp := by cases o <;> simp [readOperand]
@[simp] theorem readOperand_pc (o : ReadOperand) (s : State) : ((readOperand o s).2).pc = s.pc := by cases o <;> simp [readOperand]
@[simp] theorem readOperand_p (o : ReadOperand) (s : State) : ((readOperand o s).2).p = s.p := by cases o <;> simp [readOperand]
@[simp] theorem readOperand_zr (o : ReadOperand) (s : State) : ((readOperand o s).2).zr = s.zr := by cases o <;> simp [readOperand]
@[simp] theorem readOperand_nr (o : ReadOperand) (s : State) : ((readOperand o s).2).nr = s.nr := by cases o <;> simp [readOperand]
@[simp] theorem readOperand_cr (o : ReadOperand) (s : State) : ((readOperand o s).2).cr = s.cr := by cases o <;> simp [readOperand]
@[simp] theorem readOperand_clocks (o : ReadOperand) (s : State) : ((readOperand o s).2).clocks = s.clocks := by cases o <;> simp [readOperand]
@[simp] theorem readOperand_nextStop (o : ReadOperand) (s : State) : ((readOperand o s).2).nextStop = s.nextStop := by cases o <;> simp [readOperand]
@[simp] theorem readOperand_halted (o : ReadOperand) (s : State) : ((readOperand o s).2).halted = s.halted := by cases o <;> simp [readOperand]
@[simp] theorem readOperand_jsrPushOffset (o : ReadOperand) (s : State) : ((readOperand o s).2).jsrPushOffset = s.jsrPushOffset := by cases o <;> simp [readOperand]
@[simp] theorem writeAt_a (fast : Bool) (a : Addr) (v : Byte) (s : State) : (writeAt fast a v s).a = s.a := by unfold writeAt; split <;> rfl
@[simp] theorem writeAt_x (fast : Bool) (a : Addr) (v : Byte) (s : State) : (writeAt fast a v s).x = s.x := by unfold writeAt; split <;> rfl
@[simp] theorem writeAt_y (fast : Bool) (a : Addr) (v : Byte) (s : State) : (writeAt fast a v s).y = s.y := by unfold writeAt; split <;> rfl
@[simp] theorem writeAt_sp (fast : Bool) (a : Addr) (v : Byte) (s : State) : (writeAt fast a v s).sp = s.sp := by unfold writeAt; split <;> rfl
@[simp] theorem writeAt_pc (fast : Bool) (a : Addr) (v : Byte) (s : State) : (writeAt fast a v s).pc = s.pc := by unfold writeAt; split <;> rfl
@[simp] theorem writeAt_p (fast : Bool) (a : Addr) (v : Byte) (s : State) : (writeAt fast a v s).p = s.p := by unfold writeAt; split <;> rfl
@[simp] theorem writeAt_zr (fast : Bool) (a : Addr) (v : Byte) (s : State) : (writeAt fast a v s).zr = s.zr := by unfold writeAt; split <;> rfl
@[simp] theorem writeAt_nr (fast : Bool) (a : Addr) (v : Byte) (s : State) : (writeAt fast a v s).nr = s.nr := by unfold writeAt; split <;> rfl
@[simp] theorem writeAt_cr (fast : Bool) (a : Addr) (v : Byte) (s : State) : (writeAt fast a v s).cr = s.cr := by unfold writeAt; split <;> rfl
@[simp] theorem writeAt_clocks (fast : Bool) (a : Addr) (v : Byte) (s : State) : (writeAt fast a v s).clocks = s.clocks := by unfold writeAt; split <;> rfl
@[simp] theorem writeAt_nextStop (fast : Bool) (a : Addr) (v : Byte) (s : State) : (writeAt fast a v s).nextStop = s.nextStop := by unfold writeAt; split <;> rfl
@[simp] theorem writeAt_halted (fast : Bool) (a : Addr) (v : Byte) (s : State) : (writeAt fast a v s).halted = s.halted := by unfold writeAt; split <;> rfl
@[simp] theorem writeAt_jsrPushOffset (fast : Bool) (a : Addr) (v : Byte) (s : State) : (writeAt fast a v s).jsrPushOffset = s.jsrPushOffset := by unfold writeAt; split <;> rfl
@[simp] theorem storeOperand_a (o : MemOperand) (v : Byte) (s : State) : (storeOperand o v s).a = s.a := by unfold storeOperand; split <;> rfl
@[simp] theorem storeOperand_x (o : MemOperand) (v : Byte) (s : State) : (storeOperand o v s).x = s.x := by unfold storeOperand; split <;> rfl
@[simp] theorem storeOperand_y (o : MemOperand) (v : Byte) (s : State) : (storeOperand o v s).y = s.y := by unfold storeOperand; split <;> rfl
@[simp] theorem storeOperand_sp (o : MemOperand) (v : Byte) (s : State) : (storeOperand o v s).sp = s.sp := by unfold storeOperand; split <;> rfl
@[simp] theorem storeOperand_pc (o : MemOperand) (v : Byte) (s : State) : (storeOperand o v s).pc = s.pc := by unfold storeOperand; split <;> rfl
@[simp] theorem storeOperand_p (o : MemOperand) (v : Byte) (s : State) : (storeOperand o v s).p = s.p := by unfold storeOperand; split <;> rfl
@[simp] theorem storeOperand_zr (o : MemOperand) (v : Byte) (s : State) : (storeOperand o v s).zr = s.zr := by unfold storeOperand; split <;> rfl
@[simp] theorem storeOperand_nr (o : MemOperand) (v : Byte) (s : State) : (storeOperand o v s).nr = s.nr := by unfold storeOperand; split <;> rfl
@[simp] theorem storeOperand_cr (o : MemOperand) (v : Byte) (s : State) : (storeOperand o v s).cr = s.cr := by unfold storeOperand; split <;> rfl
@[simp] theorem storeOperand_clocks (o : MemOperand) (v : Byte) (s : State) : (storeOperand o v s).clocks = s.clocks := by unfold storeOperand; split <;> rfl
@[simp] theorem storeOperand_nextStop (o : MemOperand) (v : Byte) (s : State) : (storeOperand o v s).nextStop = s.nextStop := by unfold storeOperand; split <;> rfl
@[simp] theorem storeOperand_halted (o : MemOperand) (v : Byte) (s : State) : (storeOperand o v s).halted = s.halted := by unfold storeOperand; split <;> rfl
@[simp] theorem storeOperand_jsrPushOffset (o : MemOperand) (v : Byte) (s : State) : (storeOperand o v s).jsrPushOffset = s.jsrPushOffset := by unfold storeOperand; split <;> rfl
@[simp] theorem indirectTarget_a (w : Addr) (s : State) : ((indirectTarget w s).2).a = s.a := rfl
@[simp] theorem indirectTarget_x (w : Addr) (s : State) : ((indirectTarget w s).2).x = s.x := rfl
@[simp] theorem indirectTarget_y (w : Addr) (s : State) : ((indirectTarget w s).2).y = s.y := rfl
@[simp] theorem indirectTarget_sp (w : Addr) (s : State) : ((indirectTarget w s).2).sp = s.sp := rfl
@[simp] theorem indirectTarget_pc (w : Addr) (s : State) : ((indirectTarget w s).2).pc = s.pc := rfl
@[simp] theorem indirectTarget_p (w : Addr) (s : State) : ((indirectTarget w s).2).p = s.p := rfl
@[simp] theorem indirectTarget_zr (w : Addr) (s : State) : ((indirectTarget w s).2).zr = s.zr := rfl
@[simp] theorem indirectTarget_nr (w : Addr) (s : State) : ((indirectTarget w s).2).nr = s.nr := rfl
@[simp] theorem indirectTarget_cr (w : Addr) (s : State) : ((indirectTarget w s).2).cr = s.cr := rfl
@[simp] theorem indirectTarget_clocks (w : Addr) (s : State) : ((indirectTarget w s).2).clocks = s.clocks := rfl
@[simp] theorem indirectTarget_nextStop (w : Addr) (s : State) : ((indirectTarget w s).2).nextStop = s.nextStop := rfl
@[simp] theorem indirectTarget_halted (w : Addr) (s : State) : ((indirectTarget w s).2).halted = s.halted := rfl
@[simp] theorem indirectTarget_jsrPushOffset (w : Addr) (s : State) : ((indirectTarget w s).2).jsrPushOffset = s.jsrPushOffset := rfl
@[simp] theorem finish_a (r : OpRow) (e : Nat) (s : State) : (finish r e s).a = s.a := rfl
@[simp] theorem finish_x (r : OpRow) (e : Nat) (s : State) : (finish r e s).x = s.x := rfl
@[simp] theorem finish_y (r : OpRow) (e : Nat) (s : State) : (finish r e s).y = s.y := rfl
@[simp] theorem finish_sp (r : OpRow) (e : Nat) (s : State) : (finish r e s).sp = s.sp := rfl
@[simp] theorem finish_p (r : OpRow) (e : Nat) (s : State) : (finish r e s).p = s.p := rfl
@[simp] theorem finish_zr (r : OpRow) (e : Nat) (s : State) : (finish r e s).zr = s.zr := rfl
@[simp] theorem finish_nr (r : OpRow) (e : Nat) (s : State) : (finish r e s).nr = s.nr := rfl
@[simp] theorem finish_cr (r : OpRow) (e : Nat) (s : State) : (finish r e s).cr = s.cr := rfl
@[simp] theorem finish_nextStop (r : OpRow) (e : Nat) (s : State) : (finish r e s).nextStop = s.nextStop := rfl
@[simp] theorem finish_iface (r : OpRow) (e : Nat) (s : State) : (finish r e s).iface = s.iface := rfl
@[simp] theorem finish_halted (r : OpRow) (e : Nat) (s : State) : (finish r e s).halted = s.halted := rfl
@[simp] theorem finish_platform (r : OpRow) (e : Nat) (s : State) : (finish r e s).platform = s.platform := rfl
@[simp] theorem finish_jsrPushOffset (r : OpRow) (e : Nat) (s : State) : (finish r e s).jsrPushOffset = s.jsrPushOffset := rfl
@[simp] theorem spend_a (c : Nat) (s : State) : (spend c s).a = s.a := rfl
@[simp] theorem spend_x (c : Nat) (s : State) : (spend c s).x = s.x := rfl
@[simp] theorem spend_y (c : Nat) (s : State) : (spend c s).y = s.y := rfl
@[simp] theorem spend_sp (c : Nat) (s : State) : (spend c s).sp = s.sp := rfl
@[simp] theorem spend_pc (c : Nat) (s : State) : (spend c s).pc = s.pc := rfl
@[simp] theorem spend_p (c : Nat) (s : State) : (spend c s).p = s.p := rfl
@[simp] theorem spend_zr (c : Nat) (s : State) : (spend c s).zr = s.zr := rfl
@[simp] theorem spend_nr (c : Nat) (s : State) : (spend c s).nr = s.nr := rfl
@[simp] theorem spend_cr (c : Nat) (s : State) : (spend c s).cr = s.cr := rfl
@[simp] theorem spend_nextStop (c : Nat) (s : State) : (spend c s).nextStop = s.nextStop := rfl
@[simp] theorem spend_iface (c : Nat) (s : State) : (spend c s).iface = s.iface := rfl
@[simp] theorem spend_halted (c : Nat) (s : State) : (spend c s).halted = s.halted := rfl
@[simp] theorem spend_platform (c : Nat) (s : State) : (spend c s).platform = s.platform := rfl
@[simp] theorem spend_jsrPushOffset (c : Nat) (s : State) : (spend c s).jsrPushOffset = s.jsrPushOffset := rfl
@[simp] theorem runBranch_a (r : OpRow) (c : Bool) (off : Byte) (s : State) : (runBranch r c off s).a = s.a := by unfold runBranch; split <;> rfl
@[simp] theorem runBranch_x (r : OpRow) (c : Bool) (off : Byte) (s : State) : (runBranch r c off s).x = s.x := by unfold runBranch; split <;> rfl
@[simp] theorem runBranch_y (r : OpRow) (c : Bool) (off : Byte) (s : State) : (runBranch r c off s).y = s.y := by unfold runBranch; split <;> rfl
@[simp] theorem runBranch_sp (r : OpRow) (c : Bool) (off : Byte) (s : State) : (runBranch r c off s).sp = s.sp := by unfold runBranch; split <;> rfl
@[simp] theorem runBranch_p (r : OpRow) (c : Bool) (off : Byte) (s : State) : (runBranch r c off s).p = s.p := by unfold runBranch; split <;> rfl
@[simp] theorem runBranch_zr (r : OpRow) (c : Bool) (off : Byte) (s : State) : (runBranch r c off s).zr = s.zr := by unfold runBranch; split <;> rfl
@[simp] theorem runBranch_nr (r : OpRow) (c : Bool) (off : Byte) (s : State) : (runBranch r c off s).nr = s.nr := by unfold runBranch; split <;> rfl
@[simp] theorem runBranch_cr (r : OpRow) (c : Bool) (off : Byte) (s : State) : (runBranch r c off s).cr = s.cr := by unfold runBranch; split <;> rfl
@[simp] theorem runBranch_nextStop (r : OpRow) (c : Bool) (off : Byte) (s : State) : (runBranch r c off s).nextStop = s.nextStop := by unfold runBranch; split <;> rfl
@[simp] theorem runBranch_iface (r : OpRow) (c : Bool) (off : Byte) (s : State) : (runBranch r c off s).iface = s.iface := by unfold runBranch; split <;> rfl
@[simp] theorem runBranch_halted (r : OpRow) (c : Bool) (off : Byte) (s : State) : (runBranch r c off s).halted = s.halted := by unfold runBranch; split <;> rfl
@[simp] theorem runBranch_platform (r : OpRow) (c : Bool) (off : Byte) (s : State) : (runBranch r c off s).platform = s.platform := by unfold runBranch; split <;> rfl
@[simp] theorem runBranch_jsrPushOffset (r : OpRow) (c : Bool) (off : Byte) (s : State) : (runBranch r c off s).jsrPushOffset = s.jsrPushOffset := by unfold runBranch; split <;> rfl

@[simp] theorem finish_pc (r : OpRow) (e : Nat) (s : State) :
    (finish r e s).pc = s.pc + BitVec.ofNat 16 r.length := rfl
@[simp] theorem finish_clocks (r : OpRow) (e : Nat) (s : State) :
    (finish r e s).clocks = s.clocks + r.cycles + e := rfl
@[simp] theorem spend_clocks (c : Nat) (s : State) : (spend c s).clocks = s.clocks + c := rfl

theorem readMem_wf (o : MemOperand) (s : State) (h : s.platform.wf = true) : (readMem o s).2.platform.wf = true := by
  unfold readMem
  split
  · exact h
  · exact memRead_wf _ _ h

theorem readOperand_wf (o : ReadOperand) (s : State) (h : s.platform.wf = true) :
    (readOperand o s).2.platform.wf = true := by
  cases o with
  | imm v => exact h
  | mem m => exact readMem_wf m s h

theorem writeAt_wf (fast : Bool) (a : Addr) (v : Byte) (s : State) (h : s.platform.wf = true) :
    (writeAt fast a v s).platform.wf = true := by
  unfold writeAt
  split
  · exact Platform.wf_poke _ _ _ h
  · exact memWrite_wf _ _ _ h

theorem storeOperand_wf (o : MemOperand) (v : Byte) (s : State) (h : s.platform.wf = true) :
    (storeOperand o v s).platform.wf = true := by
  unfold storeOperand
  split
  · exact Platform.wf_poke _ _ _ h
  · exact memWrite_wf _ _ _ (memRead_wf _ _ h)

theorem readMem_nmi (o : MemOperand) (s : State) (h : s.iface.nmiPending = true) :
    (readMem o s).2.iface.nmiPending = true := by
  unfold readMem
  split
  · exact h
  · exact memRead_nmi _ _ h

theorem readOperand_nmi (o : ReadOperand) (s : State) (h : s.iface.nmiPending = true) :
    (readOperand o s).2.iface.nmiPending = true := by
  cases o with
  | imm v => exact h
  | mem m => exact readMem_nmi m s h

theorem writeAt_nmi (fast : Bool) (a : Addr) (v : Byte) (s : State) (h : s.iface.nmiPending = true) :
    (writeAt fast a v s).iface.nmiPending = true := by
  unfold writeAt
  split
  · exact h
  · exact memWrite_nmi _ _ _ h

theorem storeOperand_nmi (o : MemOperand) (v : Byte) (s : State) (h : s.iface.nmiPending = true) :
    (storeOperand o v s).iface.nmiPending = true := by
  unfold storeOperand
  split
  · exact h
  · exact memWrite_nmi _ _ _ (memRead_nmi _ _ h)

/-- A page-cross cycle is at most one (R150). -/
theorem penalty_le (r : OpRow) (c : Bool) : penalty r c ≤ 1 := by
  unfold penalty
  split <;> omega

/-- A taken branch costs one or two cycles more (R266). -/
theorem branchExtra_bounds (pc0 : Addr) (off : Byte) : 1 ≤ branchExtra pc0 off ∧ branchExtra pc0 off ≤ 2 := by
  unfold branchExtra
  split <;> omega

/-- Class read as one update: the operation's effect, then PC and `clocks` (R130, R131). -/
theorem runRead_eq (r : OpRow) (o : ReadOperand) (op : Byte → State → State) (s : State)
    (hop : ∀ m s, (op m s).pc = s.pc ∧ (op m s).clocks = s.clocks) :
    runRead r o op s = { op (readOperand o s).1 (readOperand o s).2 with
      pc := s.pc + BitVec.ofNat 16 r.length, clocks := s.clocks + r.cycles + penalty r (o.cross s) } := by
  unfold runRead finish State.setPc State.setClocks
  rw [(hop _ _).1, (hop _ _).2, readOperand_pc, readOperand_clocks]

/-- Class store as one update: the accesses, then PC and `clocks`. -/
theorem runStore_eq (r : OpRow) (o : MemOperand) (v : Byte) (s : State) :
    runStore r o v s = { storeOperand o v s with
      pc := s.pc + BitVec.ofNat 16 r.length, clocks := s.clocks + r.cycles } := by
  ext <;> simp [runStore]

/-- The effective address of a zero-page mode lies in page 0, where the fast path finds it (R64, R135 to R137). -/
theorem zpAddr_lo8_ea (o : MemOperand) (s : State) (h : o.fast = true) : zpAddr (lo8 (o.ea s)) = o.ea s := by
  cases o <;> first
    | (simp [MemOperand.fast] at h; done)
    | (apply BitVec.eq_of_toNat_eq
       simp only [MemOperand.ea, zpAddr, toNat_cat, toNat_lo8, zext, BitVec.toNat_setWidth, BitVec.toNat_ofNat]
       omega)

/-- At a side-effect-free page an operand read is `Peek` at the effective address and changes nothing (R67, R146). -/
theorem readMem_plain (o : MemOperand) (s : State) (h : s.platform.sideEffectFree (hi8 (o.ea s)) = true) :
    readMem o s = (s.platform.peek (o.ea s), s) := by
  unfold readMem
  split
  · next hf => rw [zpRead, zpAddr_lo8_ea o s hf]
  · exact memRead_plain _ _ h

/-- At a plain page a write at the effective address changes the byte there and nothing else (R64, R147). -/
theorem writeAt_plain (o : MemOperand) (v : Byte) (s t : State) (hp : t.platform = s.platform)
    (h : s.platform.plainWrite (hi8 (o.ea s)) = true) :
    writeAt o.fast (o.ea s) v t = t.setPlatform (s.platform.poke (o.ea s) v) := by
  unfold writeAt
  split
  · next hf => rw [zpWrite, zpAddr_lo8_ea o s hf, hp]
  · rw [memWrite_plain _ _ _ (by rw [hp]; exact h), hp]

/-- At a plain page a store changes the byte at the effective address and nothing else (R64, R176). -/
theorem storeOperand_plain (o : MemOperand) (v : Byte) (s : State)
    (h : s.platform.sideEffectFree (hi8 (o.ea s)) = true) (h' : s.platform.plainWrite (hi8 (o.ea s)) = true) :
    storeOperand o v s = s.setPlatform (s.platform.poke (o.ea s) v) := by
  unfold storeOperand
  split
  · next hf => rw [zpWrite, zpAddr_lo8_ea o s hf]
  · rw [memRead_plain _ _ h, memWrite_plain _ _ _ h']

end Sys2Proof.Machine
end

