-- ==== Sys2Proof/Laws/Exec.lean ====
section
/-! SUPPORT. Once and for all, what an instruction can do: `exec` answers a next state, and that state is one of the
templates of 40_dispatch_addressing.md R131 applied to the operation of the instruction's mnemonic. -/
namespace Sys2Proof.Machine

/-- The operation of each class read mnemonic. -/
inductive ReadOf : Mnemonic → (Byte → State → State) → Prop where
  | lda : ReadOf .lda loadA
  | ldx : ReadOf .ldx loadX
  | ldy : ReadOf .ldy loadY
  | adc : ReadOf .adc adcOp
  | sbc : ReadOf .sbc sbcOp
  | and : ReadOf .and andOp
  | ora : ReadOf .ora oraOp
  | eor : ReadOf .eor eorOp
  | cmp : ReadOf .cmp cmpOp
  | cpx : ReadOf .cpx cpxOp
  | cpy : ReadOf .cpy cpyOp
  | bit : ReadOf .bit bitTest

/-- The operation of each class rmw mnemonic. -/
inductive RmwOf : Mnemonic → (Byte → State → Byte × State) → Prop where
  | inc : RmwOf .inc incOp
  | dec : RmwOf .dec decOp
  | asl : RmwOf .asl aslOp
  | lsr : RmwOf .lsr lsrOp
  | rol : RmwOf .rol rolOp
  | ror : RmwOf .ror rorOp

/-- The operation of each class implied mnemonic that does not write PC. -/
inductive ImpliedOf : Mnemonic → (State → State) → Prop where
  | tax : ImpliedOf .tax transferAX
  | tay : ImpliedOf .tay transferAY
  | txa : ImpliedOf .txa transferXA
  | tya : ImpliedOf .tya transferYA
  | tsx : ImpliedOf .tsx transferSX
  | txs : ImpliedOf .txs transferXS
  | inx : ImpliedOf .inx inxOp
  | iny : ImpliedOf .iny inyOp
  | dex : ImpliedOf .dex dexOp
  | dey : ImpliedOf .dey deyOp
  | clc : ImpliedOf .clc (State.setCr · false)
  | sec : ImpliedOf .sec (State.setCr · true)
  | cli : ImpliedOf .cli (State.setI · false)
  | sei : ImpliedOf .sei (State.setI · true)
  | clv : ImpliedOf .clv (State.setV · false)
  | cld : ImpliedOf .cld (State.setD · false)
  | sed : ImpliedOf .sed (State.setD · true)
  | pha : ImpliedOf .pha pushA
  | php : ImpliedOf .php pushStatus
  | pla : ImpliedOf .pla pullA
  | plp : ImpliedOf .plp pullStatus
  | nop : ImpliedOf .nop id

/-- The mnemonics of the branches. -/
inductive BranchOf : Mnemonic → Prop where
  | bpl : BranchOf .bpl
  | bmi : BranchOf .bmi
  | bvc : BranchOf .bvc
  | bvs : BranchOf .bvs
  | bcc : BranchOf .bcc
  | bcs : BranchOf .bcs
  | bne : BranchOf .bne
  | beq : BranchOf .beq

/-- The next states instruction `i` can have from `s`. -/
inductive Does (i : Instr) (s : State) : State → Prop where
  | read (r : OpRow) (m : Mnemonic) (o : ReadOperand) (op : Byte → State → State) (hr : r = i.row)
      (hcls : r.cls = .read) (hm : r.mnemonic = m) (hop : ReadOf m op) (hcost : 2 ≤ r.cycles ∧ r.cycles ≤ 6) : Does i s (runRead r o op s)
  | store (r : OpRow) (o : MemOperand) (v : Byte) (hr : r = i.row) (hcls : r.cls = .store)
      (ho : memOperandOf i.operand = some o) (hv : storedRegister r.mnemonic s = some v)
      (hcost : 2 ≤ r.cycles ∧ r.cycles ≤ 6) : Does i s (runStore r o v s)
  | rmw (r : OpRow) (m : Mnemonic) (o : MemOperand) (op : Byte → State → Byte × State) (hr : r = i.row)
      (hcls : r.cls = .rmw) (hmode : r.mode ≠ .imp) (ho : memOperandOf i.operand = some o) (hm : r.mnemonic = m)
      (hop : RmwOf m op)
      (hcost : 2 ≤ r.cycles ∧ r.cycles ≤ 7) : Does i s (runRmw r o op s)
  | acc (r : OpRow) (m : Mnemonic) (op : Byte → State → Byte × State) (hr : r = i.row) (hcls : r.cls = .rmw)
      (hmode : r.mode = .imp) (hm : r.mnemonic = m) (hmn : m ∈ [.asl, .lsr, .rol, .ror]) (hop : RmwOf m op) (hcost : r.cycles = 2) :
      Does i s (runAcc r op s)
  | implied (r : OpRow) (m : Mnemonic) (op : State → State) (hr : r = i.row) (hcls : r.cls = .implied)
      (hm : r.mnemonic = m) (hop : ImpliedOf m op)
      (hcost : 2 ≤ r.cycles ∧ r.cycles ≤ 4) : Does i s (runImplied r op s)
  | branch (r : OpRow) (m : Mnemonic) (cond : Bool) (off : Byte) (hr : r = i.row) (hcls : r.cls = .branch)
      (hm : r.mnemonic = m) (hop : BranchOf m) (hcost : r.cycles = 2) : Does i s (runBranch r cond off s)
  | selfJump (hi : i = .jmpAbs s.pc) : Does i s ((s.setPc s.pc).setClocks s.nextStop)
  | jump (w : Addr) (hi : i = .jmpAbs w) (hw : w ≠ s.pc) : Does i s (spend 3 (s.setPc w))
  | jumpIndirect (w : Addr) (hi : i = .jmpInd w) :
      Does i s (spend 5 ((indirectTarget w s).2.setPc (indirectTarget w s).1))
  | call (w : Addr) (hi : i = .jsr w) : Does i s (spend 6 ((pushAddr (jsrReturn s) s).setPc w))
  | ret (hi : i = .rts) : Does i s (spend 6 ((popAddr s).2.setPc ((popAddr s).1 + 1#16)))
  | brk (hi : i = .brk) : Does i s (interruptEntry Config.vecBrk true (s.setPc (s.pc + Config.brkPushOffset)))
  | rti (hi : i = .rti) : Does i s (spend 6 (interruptReturn s))

/-- Every instruction answers a next state, one that `Does` lists. -/
theorem exec_does (i : Instr) (s : State) : ∃ t, exec i s = .next t ∧ Does i s t := by
  cases i
  case jmpAbs w =>
    by_cases h : w = s.pc
    · subst h
      exact ⟨_, if_pos rfl, .selfJump rfl⟩
    · exact ⟨_, if_neg h, .jump w rfl h⟩
  case jmpInd w => exact ⟨_, rfl, .jumpIndirect w rfl⟩
  case jsr w => exact ⟨_, rfl, .call w rfl⟩
  case rts => exact ⟨_, rfl, .ret rfl⟩
  case brk => exact ⟨_, rfl, .brk rfl⟩
  case rti => exact ⟨_, rfl, .rti rfl⟩
  all_goals
    refine ⟨_, rfl, ?_⟩
    first
      | with_reducible refine .read _ _ _ _ rfl ?_ rfl ?_ ?_
        exacts [rfl, by constructor, ⟨Nat.le_of_ble_eq_true rfl, Nat.le_of_ble_eq_true rfl⟩]
      | with_reducible refine .store _ _ _ rfl ?_ ?_ ?_ ?_
        exacts [rfl, rfl, rfl, ⟨Nat.le_of_ble_eq_true rfl, Nat.le_of_ble_eq_true rfl⟩]
      | with_reducible refine .rmw _ _ _ _ rfl ?_ ?_ ?_ rfl ?_ ?_
        exacts [rfl, nofun, rfl, by constructor, ⟨Nat.le_of_ble_eq_true rfl, Nat.le_of_ble_eq_true rfl⟩]
      | with_reducible refine .acc _ _ _ rfl ?_ ?_ rfl ?_ ?_ ?_
        exacts [rfl, rfl, by decide, by constructor, rfl]
      | with_reducible refine .implied _ _ _ rfl ?_ rfl ?_ ?_
        exacts [rfl, by constructor, ⟨Nat.le_of_ble_eq_true rfl, Nat.le_of_ble_eq_true rfl⟩]
      | with_reducible refine .branch _ _ _ _ rfl ?_ rfl ?_ ?_
        exacts [rfl, by constructor, rfl]

end Sys2Proof.Machine
end

