-- ==== Sys2Proof/Laws/PerInstr.lean ====
section
/-! SUPPORT. The family RowShape: of every instruction as syntax, that its row of the opcode table is well-formed, that
its operand has the row's mode, that the mode resolver of 30_encoding.md R105 to R108 agrees with the row, and that its
encoding has the row's length (R101, R102, R106, R112, R113). -/
namespace Sys2Proof.Laws.RowShape

/-- What RowShape says of one instruction. -/
def Statement (i : Instr) : Prop :=
  i.row.wellFormed = true ∧ i.operand.mode = i.row.mode ∧ resolveMode i.row.opcode = some i.row.mode ∧
    (encode i).length = i.row.length

theorem ldaImm (v : Byte) : Statement (.ldaImm v) :=
  ⟨rfl, rfl, (by decide : resolveMode 0xA9#8 = some .imm), rfl⟩
theorem ldaZp (z : Byte) : Statement (.ldaZp z) :=
  ⟨rfl, rfl, (by decide : resolveMode 0xA5#8 = some .zp), rfl⟩
theorem ldaZpx (z : Byte) : Statement (.ldaZpx z) :=
  ⟨rfl, rfl, (by decide : resolveMode 0xB5#8 = some .zpx), rfl⟩
theorem ldaAbs (w : Addr) : Statement (.ldaAbs w) :=
  ⟨rfl, rfl, (by decide : resolveMode 0xAD#8 = some .abs), rfl⟩
theorem ldaAbx (w : Addr) : Statement (.ldaAbx w) :=
  ⟨rfl, rfl, (by decide : resolveMode 0xBD#8 = some .abx), rfl⟩
theorem ldaAby (w : Addr) : Statement (.ldaAby w) :=
  ⟨rfl, rfl, (by decide : resolveMode 0xB9#8 = some .aby), rfl⟩
theorem ldaIzx (z : Byte) : Statement (.ldaIzx z) :=
  ⟨rfl, rfl, (by decide : resolveMode 0xA1#8 = some .izx), rfl⟩
theorem ldaIzy (z : Byte) : Statement (.ldaIzy z) :=
  ⟨rfl, rfl, (by decide : resolveMode 0xB1#8 = some .izy), rfl⟩
theorem ldxImm (v : Byte) : Statement (.ldxImm v) :=
  ⟨rfl, rfl, (by decide : resolveMode 0xA2#8 = some .imm), rfl⟩
theorem ldxZp (z : Byte) : Statement (.ldxZp z) :=
  ⟨rfl, rfl, (by decide : resolveMode 0xA6#8 = some .zp), rfl⟩
theorem ldxZpy (z : Byte) : Statement (.ldxZpy z) :=
  ⟨rfl, rfl, (by decide : resolveMode 0xB6#8 = some .zpy), rfl⟩
theorem ldxAbs (w : Addr) : Statement (.ldxAbs w) :=
  ⟨rfl, rfl, (by decide : resolveMode 0xAE#8 = some .abs), rfl⟩
theorem ldxAby (w : Addr) : Statement (.ldxAby w) :=
  ⟨rfl, rfl, (by decide : resolveMode 0xBE#8 = some .aby), rfl⟩
theorem ldyImm (v : Byte) : Statement (.ldyImm v) :=
  ⟨rfl, rfl, (by decide : resolveMode 0xA0#8 = some .imm), rfl⟩
theorem ldyZp (z : Byte) : Statement (.ldyZp z) :=
  ⟨rfl, rfl, (by decide : resolveMode 0xA4#8 = some .zp), rfl⟩
theorem ldyZpx (z : Byte) : Statement (.ldyZpx z) :=
  ⟨rfl, rfl, (by decide : resolveMode 0xB4#8 = some .zpx), rfl⟩
theorem ldyAbs (w : Addr) : Statement (.ldyAbs w) :=
  ⟨rfl, rfl, (by decide : resolveMode 0xAC#8 = some .abs), rfl⟩
theorem ldyAbx (w : Addr) : Statement (.ldyAbx w) :=
  ⟨rfl, rfl, (by decide : resolveMode 0xBC#8 = some .abx), rfl⟩
theorem staZp (z : Byte) : Statement (.staZp z) :=
  ⟨rfl, rfl, (by decide : resolveMode 0x85#8 = some .zp), rfl⟩
theorem staZpx (z : Byte) : Statement (.staZpx z) :=
  ⟨rfl, rfl, (by decide : resolveMode 0x95#8 = some .zpx), rfl⟩
theorem staAbs (w : Addr) : Statement (.staAbs w) :=
  ⟨rfl, rfl, (by decide : resolveMode 0x8D#8 = some .abs), rfl⟩
theorem staAbx (w : Addr) : Statement (.staAbx w) :=
  ⟨rfl, rfl, (by decide : resolveMode 0x9D#8 = some .abx), rfl⟩
theorem staAby (w : Addr) : Statement (.staAby w) :=
  ⟨rfl, rfl, (by decide : resolveMode 0x99#8 = some .aby), rfl⟩
theorem staIzx (z : Byte) : Statement (.staIzx z) :=
  ⟨rfl, rfl, (by decide : resolveMode 0x81#8 = some .izx), rfl⟩
theorem staIzy (z : Byte) : Statement (.staIzy z) :=
  ⟨rfl, rfl, (by decide : resolveMode 0x91#8 = some .izy), rfl⟩
theorem stxZp (z : Byte) : Statement (.stxZp z) :=
  ⟨rfl, rfl, (by decide : resolveMode 0x86#8 = some .zp), rfl⟩
theorem stxZpy (z : Byte) : Statement (.stxZpy z) :=
  ⟨rfl, rfl, (by decide : resolveMode 0x96#8 = some .zpy), rfl⟩
theorem stxAbs (w : Addr) : Statement (.stxAbs w) :=
  ⟨rfl, rfl, (by decide : resolveMode 0x8E#8 = some .abs), rfl⟩
theorem styZp (z : Byte) : Statement (.styZp z) :=
  ⟨rfl, rfl, (by decide : resolveMode 0x84#8 = some .zp), rfl⟩
theorem styZpx (z : Byte) : Statement (.styZpx z) :=
  ⟨rfl, rfl, (by decide : resolveMode 0x94#8 = some .zpx), rfl⟩
theorem styAbs (w : Addr) : Statement (.styAbs w) :=
  ⟨rfl, rfl, (by decide : resolveMode 0x8C#8 = some .abs), rfl⟩
theorem tax : Statement .tax :=
  ⟨rfl, rfl, (by decide : resolveMode 0xAA#8 = some .imp), rfl⟩
theorem tay : Statement .tay :=
  ⟨rfl, rfl, (by decide : resolveMode 0xA8#8 = some .imp), rfl⟩
theorem txa : Statement .txa :=
  ⟨rfl, rfl, (by decide : resolveMode 0x8A#8 = some .imp), rfl⟩
theorem tya : Statement .tya :=
  ⟨rfl, rfl, (by decide : resolveMode 0x98#8 = some .imp), rfl⟩
theorem tsx : Statement .tsx :=
  ⟨rfl, rfl, (by decide : resolveMode 0xBA#8 = some .imp), rfl⟩
theorem txs : Statement .txs :=
  ⟨rfl, rfl, (by decide : resolveMode 0x9A#8 = some .imp), rfl⟩
theorem adcImm (v : Byte) : Statement (.adcImm v) :=
  ⟨rfl, rfl, (by decide : resolveMode 0x69#8 = some .imm), rfl⟩
theorem adcZp (z : Byte) : Statement (.adcZp z) :=
  ⟨rfl, rfl, (by decide : resolveMode 0x65#8 = some .zp), rfl⟩
theorem adcZpx (z : Byte) : Statement (.adcZpx z) :=
  ⟨rfl, rfl, (by decide : resolveMode 0x75#8 = some .zpx), rfl⟩
theorem adcAbs (w : Addr) : Statement (.adcAbs w) :=
  ⟨rfl, rfl, (by decide : resolveMode 0x6D#8 = some .abs), rfl⟩
theorem adcAbx (w : Addr) : Statement (.adcAbx w) :=
  ⟨rfl, rfl, (by decide : resolveMode 0x7D#8 = some .abx), rfl⟩
theorem adcAby (w : Addr) : Statement (.adcAby w) :=
  ⟨rfl, rfl, (by decide : resolveMode 0x79#8 = some .aby), rfl⟩
theorem adcIzx (z : Byte) : Statement (.adcIzx z) :=
  ⟨rfl, rfl, (by decide : resolveMode 0x61#8 = some .izx), rfl⟩
theorem adcIzy (z : Byte) : Statement (.adcIzy z) :=
  ⟨rfl, rfl, (by decide : resolveMode 0x71#8 = some .izy), rfl⟩
theorem sbcImm (v : Byte) : Statement (.sbcImm v) :=
  ⟨rfl, rfl, (by decide : resolveMode 0xE9#8 = some .imm), rfl⟩
theorem sbcZp (z : Byte) : Statement (.sbcZp z) :=
  ⟨rfl, rfl, (by decide : resolveMode 0xE5#8 = some .zp), rfl⟩
theorem sbcZpx (z : Byte) : Statement (.sbcZpx z) :=
  ⟨rfl, rfl, (by decide : resolveMode 0xF5#8 = some .zpx), rfl⟩
theorem sbcAbs (w : Addr) : Statement (.sbcAbs w) :=
  ⟨rfl, rfl, (by decide : resolveMode 0xED#8 = some .abs), rfl⟩
theorem sbcAbx (w : Addr) : Statement (.sbcAbx w) :=
  ⟨rfl, rfl, (by decide : resolveMode 0xFD#8 = some .abx), rfl⟩
theorem sbcAby (w : Addr) : Statement (.sbcAby w) :=
  ⟨rfl, rfl, (by decide : resolveMode 0xF9#8 = some .aby), rfl⟩
theorem sbcIzx (z : Byte) : Statement (.sbcIzx z) :=
  ⟨rfl, rfl, (by decide : resolveMode 0xE1#8 = some .izx), rfl⟩
theorem sbcIzy (z : Byte) : Statement (.sbcIzy z) :=
  ⟨rfl, rfl, (by decide : resolveMode 0xF1#8 = some .izy), rfl⟩
theorem andImm (v : Byte) : Statement (.andImm v) :=
  ⟨rfl, rfl, (by decide : resolveMode 0x29#8 = some .imm), rfl⟩
theorem andZp (z : Byte) : Statement (.andZp z) :=
  ⟨rfl, rfl, (by decide : resolveMode 0x25#8 = some .zp), rfl⟩
theorem andZpx (z : Byte) : Statement (.andZpx z) :=
  ⟨rfl, rfl, (by decide : resolveMode 0x35#8 = some .zpx), rfl⟩
theorem andAbs (w : Addr) : Statement (.andAbs w) :=
  ⟨rfl, rfl, (by decide : resolveMode 0x2D#8 = some .abs), rfl⟩
theorem andAbx (w : Addr) : Statement (.andAbx w) :=
  ⟨rfl, rfl, (by decide : resolveMode 0x3D#8 = some .abx), rfl⟩
theorem andAby (w : Addr) : Statement (.andAby w) :=
  ⟨rfl, rfl, (by decide : resolveMode 0x39#8 = some .aby), rfl⟩
theorem andIzx (z : Byte) : Statement (.andIzx z) :=
  ⟨rfl, rfl, (by decide : resolveMode 0x21#8 = some .izx), rfl⟩
theorem andIzy (z : Byte) : Statement (.andIzy z) :=
  ⟨rfl, rfl, (by decide : resolveMode 0x31#8 = some .izy), rfl⟩
theorem oraImm (v : Byte) : Statement (.oraImm v) :=
  ⟨rfl, rfl, (by decide : resolveMode 0x09#8 = some .imm), rfl⟩
theorem oraZp (z : Byte) : Statement (.oraZp z) :=
  ⟨rfl, rfl, (by decide : resolveMode 0x05#8 = some .zp), rfl⟩
theorem oraZpx (z : Byte) : Statement (.oraZpx z) :=
  ⟨rfl, rfl, (by decide : resolveMode 0x15#8 = some .zpx), rfl⟩
theorem oraAbs (w : Addr) : Statement (.oraAbs w) :=
  ⟨rfl, rfl, (by decide : resolveMode 0x0D#8 = some .abs), rfl⟩
theorem oraAbx (w : Addr) : Statement (.oraAbx w) :=
  ⟨rfl, rfl, (by decide : resolveMode 0x1D#8 = some .abx), rfl⟩
theorem oraAby (w : Addr) : Statement (.oraAby w) :=
  ⟨rfl, rfl, (by decide : resolveMode 0x19#8 = some .aby), rfl⟩
theorem oraIzx (z : Byte) : Statement (.oraIzx z) :=
  ⟨rfl, rfl, (by decide : resolveMode 0x01#8 = some .izx), rfl⟩
theorem oraIzy (z : Byte) : Statement (.oraIzy z) :=
  ⟨rfl, rfl, (by decide : resolveMode 0x11#8 = some .izy), rfl⟩
theorem eorImm (v : Byte) : Statement (.eorImm v) :=
  ⟨rfl, rfl, (by decide : resolveMode 0x49#8 = some .imm), rfl⟩
theorem eorZp (z : Byte) : Statement (.eorZp z) :=
  ⟨rfl, rfl, (by decide : resolveMode 0x45#8 = some .zp), rfl⟩
theorem eorZpx (z : Byte) : Statement (.eorZpx z) :=
  ⟨rfl, rfl, (by decide : resolveMode 0x55#8 = some .zpx), rfl⟩
theorem eorAbs (w : Addr) : Statement (.eorAbs w) :=
  ⟨rfl, rfl, (by decide : resolveMode 0x4D#8 = some .abs), rfl⟩
theorem eorAbx (w : Addr) : Statement (.eorAbx w) :=
  ⟨rfl, rfl, (by decide : resolveMode 0x5D#8 = some .abx), rfl⟩
theorem eorAby (w : Addr) : Statement (.eorAby w) :=
  ⟨rfl, rfl, (by decide : resolveMode 0x59#8 = some .aby), rfl⟩
theorem eorIzx (z : Byte) : Statement (.eorIzx z) :=
  ⟨rfl, rfl, (by decide : resolveMode 0x41#8 = some .izx), rfl⟩
theorem eorIzy (z : Byte) : Statement (.eorIzy z) :=
  ⟨rfl, rfl, (by decide : resolveMode 0x51#8 = some .izy), rfl⟩
theorem cmpImm (v : Byte) : Statement (.cmpImm v) :=
  ⟨rfl, rfl, (by decide : resolveMode 0xC9#8 = some .imm), rfl⟩
theorem cmpZp (z : Byte) : Statement (.cmpZp z) :=
  ⟨rfl, rfl, (by decide : resolveMode 0xC5#8 = some .zp), rfl⟩
theorem cmpZpx (z : Byte) : Statement (.cmpZpx z) :=
  ⟨rfl, rfl, (by decide : resolveMode 0xD5#8 = some .zpx), rfl⟩
theorem cmpAbs (w : Addr) : Statement (.cmpAbs w) :=
  ⟨rfl, rfl, (by decide : resolveMode 0xCD#8 = some .abs), rfl⟩
theorem cmpAbx (w : Addr) : Statement (.cmpAbx w) :=
  ⟨rfl, rfl, (by decide : resolveMode 0xDD#8 = some .abx), rfl⟩
theorem cmpAby (w : Addr) : Statement (.cmpAby w) :=
  ⟨rfl, rfl, (by decide : resolveMode 0xD9#8 = some .aby), rfl⟩
theorem cmpIzx (z : Byte) : Statement (.cmpIzx z) :=
  ⟨rfl, rfl, (by decide : resolveMode 0xC1#8 = some .izx), rfl⟩
theorem cmpIzy (z : Byte) : Statement (.cmpIzy z) :=
  ⟨rfl, rfl, (by decide : resolveMode 0xD1#8 = some .izy), rfl⟩
theorem cpxImm (v : Byte) : Statement (.cpxImm v) :=
  ⟨rfl, rfl, (by decide : resolveMode 0xE0#8 = some .imm), rfl⟩
theorem cpxZp (z : Byte) : Statement (.cpxZp z) :=
  ⟨rfl, rfl, (by decide : resolveMode 0xE4#8 = some .zp), rfl⟩
theorem cpxAbs (w : Addr) : Statement (.cpxAbs w) :=
  ⟨rfl, rfl, (by decide : resolveMode 0xEC#8 = some .abs), rfl⟩
theorem cpyImm (v : Byte) : Statement (.cpyImm v) :=
  ⟨rfl, rfl, (by decide : resolveMode 0xC0#8 = some .imm), rfl⟩
theorem cpyZp (z : Byte) : Statement (.cpyZp z) :=
  ⟨rfl, rfl, (by decide : resolveMode 0xC4#8 = some .zp), rfl⟩
theorem cpyAbs (w : Addr) : Statement (.cpyAbs w) :=
  ⟨rfl, rfl, (by decide : resolveMode 0xCC#8 = some .abs), rfl⟩
theorem bitZp (z : Byte) : Statement (.bitZp z) :=
  ⟨rfl, rfl, (by decide : resolveMode 0x24#8 = some .zp), rfl⟩
theorem bitAbs (w : Addr) : Statement (.bitAbs w) :=
  ⟨rfl, rfl, (by decide : resolveMode 0x2C#8 = some .abs), rfl⟩
theorem incZp (z : Byte) : Statement (.incZp z) :=
  ⟨rfl, rfl, (by decide : resolveMode 0xE6#8 = some .zp), rfl⟩
theorem incZpx (z : Byte) : Statement (.incZpx z) :=
  ⟨rfl, rfl, (by decide : resolveMode 0xF6#8 = some .zpx), rfl⟩
theorem incAbs (w : Addr) : Statement (.incAbs w) :=
  ⟨rfl, rfl, (by decide : resolveMode 0xEE#8 = some .abs), rfl⟩
theorem incAbx (w : Addr) : Statement (.incAbx w) :=
  ⟨rfl, rfl, (by decide : resolveMode 0xFE#8 = some .abx), rfl⟩
theorem decZp (z : Byte) : Statement (.decZp z) :=
  ⟨rfl, rfl, (by decide : resolveMode 0xC6#8 = some .zp), rfl⟩
theorem decZpx (z : Byte) : Statement (.decZpx z) :=
  ⟨rfl, rfl, (by decide : resolveMode 0xD6#8 = some .zpx), rfl⟩
theorem decAbs (w : Addr) : Statement (.decAbs w) :=
  ⟨rfl, rfl, (by decide : resolveMode 0xCE#8 = some .abs), rfl⟩
theorem decAbx (w : Addr) : Statement (.decAbx w) :=
  ⟨rfl, rfl, (by decide : resolveMode 0xDE#8 = some .abx), rfl⟩
theorem inx : Statement .inx :=
  ⟨rfl, rfl, (by decide : resolveMode 0xE8#8 = some .imp), rfl⟩
theorem iny : Statement .iny :=
  ⟨rfl, rfl, (by decide : resolveMode 0xC8#8 = some .imp), rfl⟩
theorem dex : Statement .dex :=
  ⟨rfl, rfl, (by decide : resolveMode 0xCA#8 = some .imp), rfl⟩
theorem dey : Statement .dey :=
  ⟨rfl, rfl, (by decide : resolveMode 0x88#8 = some .imp), rfl⟩
theorem aslAcc : Statement .aslAcc :=
  ⟨rfl, rfl, (by decide : resolveMode 0x0A#8 = some .imp), rfl⟩
theorem aslZp (z : Byte) : Statement (.aslZp z) :=
  ⟨rfl, rfl, (by decide : resolveMode 0x06#8 = some .zp), rfl⟩
theorem aslZpx (z : Byte) : Statement (.aslZpx z) :=
  ⟨rfl, rfl, (by decide : resolveMode 0x16#8 = some .zpx), rfl⟩
theorem aslAbs (w : Addr) : Statement (.aslAbs w) :=
  ⟨rfl, rfl, (by decide : resolveMode 0x0E#8 = some .abs), rfl⟩
theorem aslAbx (w : Addr) : Statement (.aslAbx w) :=
  ⟨rfl, rfl, (by decide : resolveMode 0x1E#8 = some .abx), rfl⟩
theorem lsrAcc : Statement .lsrAcc :=
  ⟨rfl, rfl, (by decide : resolveMode 0x4A#8 = some .imp), rfl⟩
theorem lsrZp (z : Byte) : Statement (.lsrZp z) :=
  ⟨rfl, rfl, (by decide : resolveMode 0x46#8 = some .zp), rfl⟩
theorem lsrZpx (z : Byte) : Statement (.lsrZpx z) :=
  ⟨rfl, rfl, (by decide : resolveMode 0x56#8 = some .zpx), rfl⟩
theorem lsrAbs (w : Addr) : Statement (.lsrAbs w) :=
  ⟨rfl, rfl, (by decide : resolveMode 0x4E#8 = some .abs), rfl⟩
theorem lsrAbx (w : Addr) : Statement (.lsrAbx w) :=
  ⟨rfl, rfl, (by decide : resolveMode 0x5E#8 = some .abx), rfl⟩
theorem rolAcc : Statement .rolAcc :=
  ⟨rfl, rfl, (by decide : resolveMode 0x2A#8 = some .imp), rfl⟩
theorem rolZp (z : Byte) : Statement (.rolZp z) :=
  ⟨rfl, rfl, (by decide : resolveMode 0x26#8 = some .zp), rfl⟩
theorem rolZpx (z : Byte) : Statement (.rolZpx z) :=
  ⟨rfl, rfl, (by decide : resolveMode 0x36#8 = some .zpx), rfl⟩
theorem rolAbs (w : Addr) : Statement (.rolAbs w) :=
  ⟨rfl, rfl, (by decide : resolveMode 0x2E#8 = some .abs), rfl⟩
theorem rolAbx (w : Addr) : Statement (.rolAbx w) :=
  ⟨rfl, rfl, (by decide : resolveMode 0x3E#8 = some .abx), rfl⟩
theorem rorAcc : Statement .rorAcc :=
  ⟨rfl, rfl, (by decide : resolveMode 0x6A#8 = some .imp), rfl⟩
theorem rorZp (z : Byte) : Statement (.rorZp z) :=
  ⟨rfl, rfl, (by decide : resolveMode 0x66#8 = some .zp), rfl⟩
theorem rorZpx (z : Byte) : Statement (.rorZpx z) :=
  ⟨rfl, rfl, (by decide : resolveMode 0x76#8 = some .zpx), rfl⟩
theorem rorAbs (w : Addr) : Statement (.rorAbs w) :=
  ⟨rfl, rfl, (by decide : resolveMode 0x6E#8 = some .abs), rfl⟩
theorem rorAbx (w : Addr) : Statement (.rorAbx w) :=
  ⟨rfl, rfl, (by decide : resolveMode 0x7E#8 = some .abx), rfl⟩
theorem clc : Statement .clc :=
  ⟨rfl, rfl, (by decide : resolveMode 0x18#8 = some .imp), rfl⟩
theorem sec : Statement .sec :=
  ⟨rfl, rfl, (by decide : resolveMode 0x38#8 = some .imp), rfl⟩
theorem cli : Statement .cli :=
  ⟨rfl, rfl, (by decide : resolveMode 0x58#8 = some .imp), rfl⟩
theorem sei : Statement .sei :=
  ⟨rfl, rfl, (by decide : resolveMode 0x78#8 = some .imp), rfl⟩
theorem clv : Statement .clv :=
  ⟨rfl, rfl, (by decide : resolveMode 0xB8#8 = some .imp), rfl⟩
theorem cld : Statement .cld :=
  ⟨rfl, rfl, (by decide : resolveMode 0xD8#8 = some .imp), rfl⟩
theorem sed : Statement .sed :=
  ⟨rfl, rfl, (by decide : resolveMode 0xF8#8 = some .imp), rfl⟩
theorem pha : Statement .pha :=
  ⟨rfl, rfl, (by decide : resolveMode 0x48#8 = some .imp), rfl⟩
theorem php : Statement .php :=
  ⟨rfl, rfl, (by decide : resolveMode 0x08#8 = some .imp), rfl⟩
theorem pla : Statement .pla :=
  ⟨rfl, rfl, (by decide : resolveMode 0x68#8 = some .imp), rfl⟩
theorem plp : Statement .plp :=
  ⟨rfl, rfl, (by decide : resolveMode 0x28#8 = some .imp), rfl⟩
theorem nop : Statement .nop :=
  ⟨rfl, rfl, (by decide : resolveMode 0xEA#8 = some .imp), rfl⟩
theorem jmpAbs (w : Addr) : Statement (.jmpAbs w) :=
  ⟨rfl, rfl, (by decide : resolveMode 0x4C#8 = some .abs), rfl⟩
theorem jmpInd (w : Addr) : Statement (.jmpInd w) :=
  ⟨rfl, rfl, (by decide : resolveMode 0x6C#8 = some .ind), rfl⟩
theorem jsr (w : Addr) : Statement (.jsr w) :=
  ⟨rfl, rfl, (by decide : resolveMode 0x20#8 = some .abs), rfl⟩
theorem rts : Statement .rts :=
  ⟨rfl, rfl, (by decide : resolveMode 0x60#8 = some .imp), rfl⟩
theorem bpl (off : Byte) : Statement (.bpl off) :=
  ⟨rfl, rfl, (by decide : resolveMode 0x10#8 = some .rel), rfl⟩
theorem bmi (off : Byte) : Statement (.bmi off) :=
  ⟨rfl, rfl, (by decide : resolveMode 0x30#8 = some .rel), rfl⟩
theorem bvc (off : Byte) : Statement (.bvc off) :=
  ⟨rfl, rfl, (by decide : resolveMode 0x50#8 = some .rel), rfl⟩
theorem bvs (off : Byte) : Statement (.bvs off) :=
  ⟨rfl, rfl, (by decide : resolveMode 0x70#8 = some .rel), rfl⟩
theorem bcc (off : Byte) : Statement (.bcc off) :=
  ⟨rfl, rfl, (by decide : resolveMode 0x90#8 = some .rel), rfl⟩
theorem bcs (off : Byte) : Statement (.bcs off) :=
  ⟨rfl, rfl, (by decide : resolveMode 0xB0#8 = some .rel), rfl⟩
theorem bne (off : Byte) : Statement (.bne off) :=
  ⟨rfl, rfl, (by decide : resolveMode 0xD0#8 = some .rel), rfl⟩
theorem beq (off : Byte) : Statement (.beq off) :=
  ⟨rfl, rfl, (by decide : resolveMode 0xF0#8 = some .rel), rfl⟩
theorem brk : Statement .brk :=
  ⟨rfl, rfl, (by decide : resolveMode 0x00#8 = some .imp), rfl⟩
theorem rti : Statement .rti :=
  ⟨rfl, rfl, (by decide : resolveMode 0x40#8 = some .imp), rfl⟩

end Sys2Proof.Laws.RowShape
end

