-- ==== Sys2Proof/Laws/Scheduler.lean ====
section
/-! SUPPORT. What a repointing, a move and a run can do (60_exceptions.md R325, R334): one lemma for each. -/
namespace Sys2Proof.Machine

/-- A repointing of a page that is not `RAM` changes that page's pointer and nothing else (R61). -/
theorem move_repoint (page : Byte) (target : Nat) (s : State) (h : isRamPage page = false) :
    move (.repoint page target) s = .next (s.setPlatform (s.platform.repoint ⟨page, h⟩ target)) := by
  simp [move, h]

/-- A repointing of page 0 or `STACK_PAGE` is refused by name (R64, R362). -/
theorem move_repoint_ram (page : Byte) (target : Nat) (s : State) (h : isRamPage page = true) :
    move (.repoint page target) s = .refused .ramPageRepointed := by
  simp [move, h]

@[simp] theorem runMoves_nil (s : State) : runMoves [] s = .next s := rfl

/-- What the first move of a run that completes does: it completes, does not halt the core, and the rest completes. -/
theorem runMoves_cons {m : Move} {ms : List Move} {s t : State} (h : runMoves (m :: ms) s = .next t) :
    ∃ u, move m s = .next u ∧ u.halted = false ∧ runMoves ms u = .next t := by
  unfold runMoves at h
  split at h
  · next u hm =>
    split at h
    · cases h
    · next hu => exact ⟨u, hm, by simpa using hu, h⟩
  · cases h
  · cases h

/-- A run in two parts: when the first completes, the second goes on from where it ends. -/
theorem runMoves_append {ms : List Move} {s t : State} (h : runMoves ms s = .next t) (ms' : List Move) :
    runMoves (ms ++ ms') s = runMoves ms' t := by
  induction ms generalizing s with
  | nil => cases h; rfl
  | cons m ms ih =>
    obtain ⟨u, hm, hu, hr⟩ := runMoves_cons h
    simp [runMoves, hm, hu, ih hr]

end Sys2Proof.Machine
end

