-- ==== Sys2Proof/Tests/Slice0.lean ====
section
/-! SUPPORT. The model's own tests: the smoke tests of WellFormed, a word for every constructor, one step of each
instruction against 95_test_vectors.md, the scheduler's vectors, and a witness for the hypotheses of each obligation that
has any. -/
namespace Sys2Proof.Tests
open Sys2Proof Sys2Proof.Machine

/-! WellFormed refuses an ill-formed row, one for each of its checks. -/

/-- R101: an absolute-mode row of two bytes. -/
theorem test_wellFormed_refuses_length :
    OpRow.wellFormed ⟨.lda, 0xAD#8, .abs, 2, 4, false, .read⟩ = false ∧
    OpRow.lengthOk ⟨.lda, 0xAD#8, .abs, 2, 4, false, .read⟩ = false := by
  decide

/-- R112, R131: a store to an immediate. -/
theorem test_wellFormed_refuses_mode :
    OpRow.wellFormed ⟨.sta, 0x89#8, .imm, 2, 2, false, .store⟩ = false ∧
    OpRow.modeOk ⟨.sta, 0x89#8, .imm, 2, 2, false, .store⟩ = false := by
  decide

/-- R113: a store flagged page-penalty-sensitive. -/
theorem test_wellFormed_refuses_penalty :
    OpRow.wellFormed ⟨.sta, 0x9D#8, .abx, 3, 5, true, .store⟩ = false ∧
    OpRow.penaltyOk ⟨.sta, 0x9D#8, .abx, 3, 5, true, .store⟩ = false := by
  decide

/-- R112: a read-modify-write in ABX at 6 cycles. -/
theorem test_wellFormed_refuses_cycles :
    OpRow.wellFormed ⟨.inc, 0xFE#8, .abx, 3, 6, false, .rmw⟩ = false ∧
    OpRow.cyclesOk ⟨.inc, 0xFE#8, .abx, 3, 6, false, .rmw⟩ = false := by
  decide

/-! Decoding: every constructor by a word written out from the opcode table and the formats. -/

/-- 30_encoding.md R101, R103, R110, rows LDA, LDX, LDY: opcode byte first, then the operand, low byte first. -/
theorem test_decodeLoads :
    decodeTableWord 16 0xC7A9 = some (.ldaImm 0xC7#8) ∧
    decodeTableWord 16 0xC7A5 = some (.ldaZp 0xC7#8) ∧
    decodeTableWord 16 0xC7B5 = some (.ldaZpx 0xC7#8) ∧
    decodeTableWord 24 0x9234AD = some (.ldaAbs 0x9234#16) ∧
    decodeTableWord 24 0x9234BD = some (.ldaAbx 0x9234#16) ∧
    decodeTableWord 24 0x9234B9 = some (.ldaAby 0x9234#16) ∧
    decodeTableWord 16 0xC7A1 = some (.ldaIzx 0xC7#8) ∧
    decodeTableWord 16 0xC7B1 = some (.ldaIzy 0xC7#8) ∧
    decodeTableWord 16 0xC7A2 = some (.ldxImm 0xC7#8) ∧
    decodeTableWord 16 0xC7A6 = some (.ldxZp 0xC7#8) ∧
    decodeTableWord 16 0xC7B6 = some (.ldxZpy 0xC7#8) ∧
    decodeTableWord 24 0x9234AE = some (.ldxAbs 0x9234#16) ∧
    decodeTableWord 24 0x9234BE = some (.ldxAby 0x9234#16) ∧
    decodeTableWord 16 0xC7A0 = some (.ldyImm 0xC7#8) ∧
    decodeTableWord 16 0xC7A4 = some (.ldyZp 0xC7#8) ∧
    decodeTableWord 16 0xC7B4 = some (.ldyZpx 0xC7#8) ∧
    decodeTableWord 24 0x9234AC = some (.ldyAbs 0x9234#16) ∧
    decodeTableWord 24 0x9234BC = some (.ldyAbx 0x9234#16) := by
  decide

/-- 30_encoding.md R101, R103, R110, rows STA, STX, STY: opcode byte first, then the operand, low byte first. -/
theorem test_decodeStores :
    decodeTableWord 16 0xC785 = some (.staZp 0xC7#8) ∧
    decodeTableWord 16 0xC795 = some (.staZpx 0xC7#8) ∧
    decodeTableWord 24 0x92348D = some (.staAbs 0x9234#16) ∧
    decodeTableWord 24 0x92349D = some (.staAbx 0x9234#16) ∧
    decodeTableWord 24 0x923499 = some (.staAby 0x9234#16) ∧
    decodeTableWord 16 0xC781 = some (.staIzx 0xC7#8) ∧
    decodeTableWord 16 0xC791 = some (.staIzy 0xC7#8) ∧
    decodeTableWord 16 0xC786 = some (.stxZp 0xC7#8) ∧
    decodeTableWord 16 0xC796 = some (.stxZpy 0xC7#8) ∧
    decodeTableWord 24 0x92348E = some (.stxAbs 0x9234#16) ∧
    decodeTableWord 16 0xC784 = some (.styZp 0xC7#8) ∧
    decodeTableWord 16 0xC794 = some (.styZpx 0xC7#8) ∧
    decodeTableWord 24 0x92348C = some (.styAbs 0x9234#16) := by
  decide

/-- 30_encoding.md R101, R103, R110, rows TAX, TAY, TXA, TYA, TSX, TXS: opcode byte first, then the operand, low byte first. -/
theorem test_decodeTransfers :
    decodeTableWord 8 0xAA = some .tax ∧
    decodeTableWord 8 0xA8 = some .tay ∧
    decodeTableWord 8 0x8A = some .txa ∧
    decodeTableWord 8 0x98 = some .tya ∧
    decodeTableWord 8 0xBA = some .tsx ∧
    decodeTableWord 8 0x9A = some .txs := by
  decide

/-- 30_encoding.md R101, R103, R110, rows ADC, SBC: opcode byte first, then the operand, low byte first. -/
theorem test_decodeAddSubtract :
    decodeTableWord 16 0xC769 = some (.adcImm 0xC7#8) ∧
    decodeTableWord 16 0xC765 = some (.adcZp 0xC7#8) ∧
    decodeTableWord 16 0xC775 = some (.adcZpx 0xC7#8) ∧
    decodeTableWord 24 0x92346D = some (.adcAbs 0x9234#16) ∧
    decodeTableWord 24 0x92347D = some (.adcAbx 0x9234#16) ∧
    decodeTableWord 24 0x923479 = some (.adcAby 0x9234#16) ∧
    decodeTableWord 16 0xC761 = some (.adcIzx 0xC7#8) ∧
    decodeTableWord 16 0xC771 = some (.adcIzy 0xC7#8) ∧
    decodeTableWord 16 0xC7E9 = some (.sbcImm 0xC7#8) ∧
    decodeTableWord 16 0xC7E5 = some (.sbcZp 0xC7#8) ∧
    decodeTableWord 16 0xC7F5 = some (.sbcZpx 0xC7#8) ∧
    decodeTableWord 24 0x9234ED = some (.sbcAbs 0x9234#16) ∧
    decodeTableWord 24 0x9234FD = some (.sbcAbx 0x9234#16) ∧
    decodeTableWord 24 0x9234F9 = some (.sbcAby 0x9234#16) ∧
    decodeTableWord 16 0xC7E1 = some (.sbcIzx 0xC7#8) ∧
    decodeTableWord 16 0xC7F1 = some (.sbcIzy 0xC7#8) := by
  decide

/-- 30_encoding.md R101, R103, R110, rows AND, ORA, EOR: opcode byte first, then the operand, low byte first. -/
theorem test_decodeLogic :
    decodeTableWord 16 0xC729 = some (.andImm 0xC7#8) ∧
    decodeTableWord 16 0xC725 = some (.andZp 0xC7#8) ∧
    decodeTableWord 16 0xC735 = some (.andZpx 0xC7#8) ∧
    decodeTableWord 24 0x92342D = some (.andAbs 0x9234#16) ∧
    decodeTableWord 24 0x92343D = some (.andAbx 0x9234#16) ∧
    decodeTableWord 24 0x923439 = some (.andAby 0x9234#16) ∧
    decodeTableWord 16 0xC721 = some (.andIzx 0xC7#8) ∧
    decodeTableWord 16 0xC731 = some (.andIzy 0xC7#8) ∧
    decodeTableWord 16 0xC709 = some (.oraImm 0xC7#8) ∧
    decodeTableWord 16 0xC705 = some (.oraZp 0xC7#8) ∧
    decodeTableWord 16 0xC715 = some (.oraZpx 0xC7#8) ∧
    decodeTableWord 24 0x92340D = some (.oraAbs 0x9234#16) ∧
    decodeTableWord 24 0x92341D = some (.oraAbx 0x9234#16) ∧
    decodeTableWord 24 0x923419 = some (.oraAby 0x9234#16) ∧
    decodeTableWord 16 0xC701 = some (.oraIzx 0xC7#8) ∧
    decodeTableWord 16 0xC711 = some (.oraIzy 0xC7#8) ∧
    decodeTableWord 16 0xC749 = some (.eorImm 0xC7#8) ∧
    decodeTableWord 16 0xC745 = some (.eorZp 0xC7#8) ∧
    decodeTableWord 16 0xC755 = some (.eorZpx 0xC7#8) ∧
    decodeTableWord 24 0x92344D = some (.eorAbs 0x9234#16) ∧
    decodeTableWord 24 0x92345D = some (.eorAbx 0x9234#16) ∧
    decodeTableWord 24 0x923459 = some (.eorAby 0x9234#16) ∧
    decodeTableWord 16 0xC741 = some (.eorIzx 0xC7#8) ∧
    decodeTableWord 16 0xC751 = some (.eorIzy 0xC7#8) := by
  decide

/-- 30_encoding.md R101, R103, R110, rows CMP, CPX, CPY, BIT: opcode byte first, then the operand, low byte first. -/
theorem test_decodeCompareAndBit :
    decodeTableWord 16 0xC7C9 = some (.cmpImm 0xC7#8) ∧
    decodeTableWord 16 0xC7C5 = some (.cmpZp 0xC7#8) ∧
    decodeTableWord 16 0xC7D5 = some (.cmpZpx 0xC7#8) ∧
    decodeTableWord 24 0x9234CD = some (.cmpAbs 0x9234#16) ∧
    decodeTableWord 24 0x9234DD = some (.cmpAbx 0x9234#16) ∧
    decodeTableWord 24 0x9234D9 = some (.cmpAby 0x9234#16) ∧
    decodeTableWord 16 0xC7C1 = some (.cmpIzx 0xC7#8) ∧
    decodeTableWord 16 0xC7D1 = some (.cmpIzy 0xC7#8) ∧
    decodeTableWord 16 0xC7E0 = some (.cpxImm 0xC7#8) ∧
    decodeTableWord 16 0xC7E4 = some (.cpxZp 0xC7#8) ∧
    decodeTableWord 24 0x9234EC = some (.cpxAbs 0x9234#16) ∧
    decodeTableWord 16 0xC7C0 = some (.cpyImm 0xC7#8) ∧
    decodeTableWord 16 0xC7C4 = some (.cpyZp 0xC7#8) ∧
    decodeTableWord 24 0x9234CC = some (.cpyAbs 0x9234#16) ∧
    decodeTableWord 16 0xC724 = some (.bitZp 0xC7#8) ∧
    decodeTableWord 24 0x92342C = some (.bitAbs 0x9234#16) := by
  decide

/-- 30_encoding.md R101, R103, R110, rows INC, DEC, INX, INY, DEX, DEY: opcode byte first, then the operand, low byte first. -/
theorem test_decodeIncrementDecrement :
    decodeTableWord 16 0xC7E6 = some (.incZp 0xC7#8) ∧
    decodeTableWord 16 0xC7F6 = some (.incZpx 0xC7#8) ∧
    decodeTableWord 24 0x9234EE = some (.incAbs 0x9234#16) ∧
    decodeTableWord 24 0x9234FE = some (.incAbx 0x9234#16) ∧
    decodeTableWord 16 0xC7C6 = some (.decZp 0xC7#8) ∧
    decodeTableWord 16 0xC7D6 = some (.decZpx 0xC7#8) ∧
    decodeTableWord 24 0x9234CE = some (.decAbs 0x9234#16) ∧
    decodeTableWord 24 0x9234DE = some (.decAbx 0x9234#16) ∧
    decodeTableWord 8 0xE8 = some .inx ∧
    decodeTableWord 8 0xC8 = some .iny ∧
    decodeTableWord 8 0xCA = some .dex ∧
    decodeTableWord 8 0x88 = some .dey := by
  decide

/-- 30_encoding.md R101, R103, R110, rows ASL, LSR, ROL, ROR: opcode byte first, then the operand, low byte first. -/
theorem test_decodeShifts :
    decodeTableWord 8 0x0A = some .aslAcc ∧
    decodeTableWord 16 0xC706 = some (.aslZp 0xC7#8) ∧
    decodeTableWord 16 0xC716 = some (.aslZpx 0xC7#8) ∧
    decodeTableWord 24 0x92340E = some (.aslAbs 0x9234#16) ∧
    decodeTableWord 24 0x92341E = some (.aslAbx 0x9234#16) ∧
    decodeTableWord 8 0x4A = some .lsrAcc ∧
    decodeTableWord 16 0xC746 = some (.lsrZp 0xC7#8) ∧
    decodeTableWord 16 0xC756 = some (.lsrZpx 0xC7#8) ∧
    decodeTableWord 24 0x92344E = some (.lsrAbs 0x9234#16) ∧
    decodeTableWord 24 0x92345E = some (.lsrAbx 0x9234#16) ∧
    decodeTableWord 8 0x2A = some .rolAcc ∧
    decodeTableWord 16 0xC726 = some (.rolZp 0xC7#8) ∧
    decodeTableWord 16 0xC736 = some (.rolZpx 0xC7#8) ∧
    decodeTableWord 24 0x92342E = some (.rolAbs 0x9234#16) ∧
    decodeTableWord 24 0x92343E = some (.rolAbx 0x9234#16) ∧
    decodeTableWord 8 0x6A = some .rorAcc ∧
    decodeTableWord 16 0xC766 = some (.rorZp 0xC7#8) ∧
    decodeTableWord 16 0xC776 = some (.rorZpx 0xC7#8) ∧
    decodeTableWord 24 0x92346E = some (.rorAbs 0x9234#16) ∧
    decodeTableWord 24 0x92347E = some (.rorAbx 0x9234#16) := by
  decide

/-- 30_encoding.md R101, R103, R110, rows CLC, SEC, CLI, SEI, CLV, CLD, SED, NOP: opcode byte first, then the operand, low byte first. -/
theorem test_decodeFlagsAndNop :
    decodeTableWord 8 0x18 = some .clc ∧
    decodeTableWord 8 0x38 = some .sec ∧
    decodeTableWord 8 0x58 = some .cli ∧
    decodeTableWord 8 0x78 = some .sei ∧
    decodeTableWord 8 0xB8 = some .clv ∧
    decodeTableWord 8 0xD8 = some .cld ∧
    decodeTableWord 8 0xF8 = some .sed ∧
    decodeTableWord 8 0xEA = some .nop := by
  decide

/-- 30_encoding.md R101, R103, R110, rows PHA, PHP, PLA, PLP: opcode byte first, then the operand, low byte first. -/
theorem test_decodeStack :
    decodeTableWord 8 0x48 = some .pha ∧
    decodeTableWord 8 0x08 = some .php ∧
    decodeTableWord 8 0x68 = some .pla ∧
    decodeTableWord 8 0x28 = some .plp := by
  decide

/-- 30_encoding.md R101, R103, R110, rows JMP, JSR, RTS, BRK, RTI: opcode byte first, then the operand, low byte first. -/
theorem test_decodeJumpsAndReturns :
    decodeTableWord 24 0x92344C = some (.jmpAbs 0x9234#16) ∧
    decodeTableWord 24 0x92346C = some (.jmpInd 0x9234#16) ∧
    decodeTableWord 24 0x923420 = some (.jsr 0x9234#16) ∧
    decodeTableWord 8 0x60 = some .rts ∧
    decodeTableWord 8 0x00 = some .brk ∧
    decodeTableWord 8 0x40 = some .rti := by
  decide

/-- 30_encoding.md R101, R103, R110, rows BPL, BMI, BVC, BVS, BCC, BCS, BNE, BEQ: opcode byte first, then the operand, low byte first. -/
theorem test_decodeBranches :
    decodeTableWord 16 0xC710 = some (.bpl 0xC7#8) ∧
    decodeTableWord 16 0xC730 = some (.bmi 0xC7#8) ∧
    decodeTableWord 16 0xC750 = some (.bvc 0xC7#8) ∧
    decodeTableWord 16 0xC770 = some (.bvs 0xC7#8) ∧
    decodeTableWord 16 0xC790 = some (.bcc 0xC7#8) ∧
    decodeTableWord 16 0xC7B0 = some (.bcs 0xC7#8) ∧
    decodeTableWord 16 0xC7D0 = some (.bne 0xC7#8) ∧
    decodeTableWord 16 0xC7F0 = some (.beq 0xC7#8) := by
  decide

/-- 30_encoding.md R102, R116: an opcode byte without a row is rejected by name, and so is one whose operand is missing. -/
theorem test_decode_rejects :
    decode [0x02#8, 0x00#8, 0x00#8] = .error (.illegalOpcode 0x02#8) ∧
    decode [0xFF#8, 0x12#8, 0x34#8] = .error (.illegalOpcode 0xFF#8) ∧
    decode [0xAD#8, 0x00#8] = .error .truncated ∧ decode [] = .error .truncated := by
  decide

/-! One step. The start state is that of 95_test_vectors.md's conventions. -/

/-- The reset state with PC and some memory set. -/
def placed (pc : Addr) (m : List Host.Cell) : State :=
  { State.reset with
    pc := pc
    platform := { State.resetPlatform with store := Memory.writeAll [] m } }

/-- The step answers a next state that passes the check. -/
def stepGives (s : State) (check : State → Bool) : Bool :=
  match step s with
  | .next t => check t
  | .fault _ => false
  | .refused _ => false

/-- The scheduler step answers a next state that passes the check. -/
def batchGives (s : State) (check : State → Bool) : Bool :=
  match schedulerStep s with
  | .next t => check t
  | .fault _ => false
  | .refused _ => false

/-- 95_test_vectors.md, vectors 4 `LDA $F0,X`, 10 `LDA ($FF),Y`, 5 `LDX $FF,Y`, 12 `LDY $0200`. -/
theorem test_vectors_load :
    stepGives { placed 0x8000#16 [(0x8000, 0xB5#8), (0x8001, 0xF0#8), (0x0010, 0xAA#8), (0x0110, 0x55#8)] with x := 0x20#8 }
      (fun t => t.a == 0xAA#8 && t.resolveToP.packedP false == 0xA4#8 && t.clocks == 4) = true ∧
    stepGives { placed 0x8000#16 [(0x8000, 0xB1#8), (0x8001, 0xFF#8), (0x00FF, 0xF8#8), (0x0000, 0x20#8), (0x2108, 0x66#8)] with y := 0x10#8 }
      (fun t => t.a == 0x66#8 && t.resolveToP.packedP false == 0x24#8 && t.clocks == 6) = true ∧
    stepGives { placed 0x8000#16 [(0x8000, 0xB6#8), (0x8001, 0xFF#8), (0x0001, 0x33#8)] with y := 0x02#8 }
      (fun t => t.x == 0x33#8 && t.resolveToP.packedP false == 0x24#8 && t.clocks == 4) = true ∧
    stepGives (placed 0x8000#16 [(0x8000, 0xAC#8), (0x8001, 0x00#8), (0x8002, 0x02#8), (0x0200, 0xFF#8)])
      (fun t => t.y == 0xFF#8 && t.resolveToP.packedP false == 0xA4#8 && t.clocks == 4) = true := by
  decide +kernel

/-- 95_test_vectors.md, vectors 15 `STA $0010`, 19 `STA ($10),Y`, 20 `STX $F0,Y`, 21 `STY $10,X`. -/
theorem test_vectors_store :
    stepGives { placed 0x8000#16 [(0x8000, 0x8D#8), (0x8001, 0x10#8), (0x8002, 0x00#8)] with a := 0x42#8 }
      (fun t => t.platform.peek 0x0010#16 == 0x42#8 && t.resolveToP.packedP false == 0x24#8 && t.clocks == 4) = true ∧
    stepGives { placed 0x8000#16 [(0x8000, 0x91#8), (0x8001, 0x10#8), (0x0010, 0x01#8), (0x0011, 0x05#8)] with a := 0xEE#8, y := 0xFF#8 }
      (fun t => t.platform.peek 0x0600#16 == 0xEE#8 && t.resolveToP.packedP false == 0x24#8 && t.clocks == 6) = true ∧
    stepGives { placed 0x8000#16 [(0x8000, 0x96#8), (0x8001, 0xF0#8)] with x := 0x09#8, y := 0x20#8 }
      (fun t => t.platform.peek 0x0010#16 == 0x09#8 && t.resolveToP.packedP false == 0x24#8 && t.clocks == 4) = true ∧
    stepGives { placed 0x8000#16 [(0x8000, 0x94#8), (0x8001, 0x10#8)] with x := 0xF8#8, y := 0x07#8 }
      (fun t => t.platform.peek 0x0008#16 == 0x07#8 && t.resolveToP.packedP false == 0x24#8 && t.clocks == 4) = true := by
  decide +kernel

/-- 95_test_vectors.md, vectors 22 `TAX`, 23 `TAY`, 24 `TXA`, 25 `TYA`, 26 `TSX`, 27 `TXS`. -/
theorem test_vectors_transfer :
    stepGives { placed 0x8000#16 [(0x8000, 0xAA#8)] with a := 0x00#8, x := 0x55#8 }
      (fun t => t.x == 0x00#8 && t.resolveToP.packedP false == 0x26#8 && t.clocks == 2) = true ∧
    stepGives { placed 0x8000#16 [(0x8000, 0xA8#8)] with a := 0x90#8 }
      (fun t => t.y == 0x90#8 && t.resolveToP.packedP false == 0xA4#8 && t.clocks == 2) = true ∧
    stepGives { placed 0x8000#16 [(0x8000, 0x8A#8)] with x := 0x01#8, nr := 0x80#8 }
      (fun t => t.a == 0x01#8 && t.resolveToP.packedP false == 0x24#8 && t.clocks == 2) = true ∧
    stepGives { placed 0x8000#16 [(0x8000, 0x98#8)] with y := 0xFF#8 }
      (fun t => t.a == 0xFF#8 && t.resolveToP.packedP false == 0xA4#8 && t.clocks == 2) = true ∧
    stepGives { placed 0x8000#16 [(0x8000, 0xBA#8)] with sp := 0xFD#8 }
      (fun t => t.x == 0xFD#8 && t.resolveToP.packedP false == 0xA4#8 && t.clocks == 2) = true ∧
    stepGives { placed 0x8000#16 [(0x8000, 0x9A#8)] with x := 0x00#8, nr := 0x80#8, zr := 0x01#8 }
      (fun t => t.sp == 0x00#8 && t.resolveToP.packedP false == 0xA4#8 && t.clocks == 2) = true := by
  decide +kernel

/-- 95_test_vectors.md, vectors 29 `ADC #$00`, 32 `ADC #$01`, 38 `SBC #$01`, 39 `SBC #$00`. -/
theorem test_vectors_add_subtract :
    stepGives { placed 0x8000#16 [(0x8000, 0x69#8), (0x8001, 0x00#8)] with a := 0x7F#8, cr := true }
      (fun t => t.a == 0x80#8 && t.resolveToP.packedP false == 0xE4#8 && t.clocks == 2) = true ∧
    stepGives { placed 0x8000#16 [(0x8000, 0x69#8), (0x8001, 0x01#8)] with a := 0x09#8, cr := false, p := 0x2C#8 }
      (fun t => t.a == 0x0A#8 && t.resolveToP.packedP false == 0x2C#8 && t.clocks == 2) = true ∧
    stepGives { placed 0x8000#16 [(0x8000, 0xE9#8), (0x8001, 0x01#8)] with a := 0x80#8, cr := true }
      (fun t => t.a == 0x7F#8 && t.resolveToP.packedP false == 0x65#8 && t.clocks == 2) = true ∧
    stepGives { placed 0x8000#16 [(0x8000, 0xE9#8), (0x8001, 0x00#8)] with a := 0x00#8, cr := false }
      (fun t => t.a == 0xFF#8 && t.resolveToP.packedP false == 0xA4#8 && t.clocks == 2) = true := by
  decide +kernel

/-- 95_test_vectors.md, vectors 42 `AND #$0F`, 44 `ORA #$80`, 46 `EOR #$FF`. -/
theorem test_vectors_logic :
    stepGives { placed 0x8000#16 [(0x8000, 0x29#8), (0x8001, 0x0F#8)] with a := 0xF0#8, cr := true, p := 0x64#8 }
      (fun t => t.a == 0x00#8 && t.resolveToP.packedP false == 0x67#8 && t.clocks == 2) = true ∧
    stepGives { placed 0x8000#16 [(0x8000, 0x09#8), (0x8001, 0x80#8)] with a := 0x01#8 }
      (fun t => t.a == 0x81#8 && t.resolveToP.packedP false == 0xA4#8 && t.clocks == 2) = true ∧
    stepGives { placed 0x8000#16 [(0x8000, 0x49#8), (0x8001, 0xFF#8)] with a := 0xFF#8 }
      (fun t => t.a == 0x00#8 && t.resolveToP.packedP false == 0x26#8 && t.clocks == 2) = true := by
  decide +kernel

/-- 95_test_vectors.md, vectors 49 `CMP #$41`, 50 `CMP #$01`, 53 `CPX #$10`, 54 `CPY #$10`, 56 `BIT $10`, 57 `BIT
$10`. -/
theorem test_vectors_compare_bit :
    stepGives { placed 0x8000#16 [(0x8000, 0xC9#8), (0x8001, 0x41#8)] with a := 0x40#8, p := 0x64#8 }
      (fun t => t.a == 0x40#8 && t.resolveToP.packedP false == 0xE4#8 && t.clocks == 2) = true ∧
    stepGives { placed 0x8000#16 [(0x8000, 0xC9#8), (0x8001, 0x01#8)] with a := 0x80#8 }
      (fun t => t.a == 0x80#8 && t.resolveToP.packedP false == 0x25#8 && t.clocks == 2) = true ∧
    stepGives { placed 0x8000#16 [(0x8000, 0xE0#8), (0x8001, 0x10#8)] with x := 0x20#8 }
      (fun t => t.x == 0x20#8 && t.resolveToP.packedP false == 0x25#8 && t.clocks == 2) = true ∧
    stepGives { placed 0x8000#16 [(0x8000, 0xC0#8), (0x8001, 0x10#8)] with y := 0x0F#8 }
      (fun t => t.y == 0x0F#8 && t.resolveToP.packedP false == 0xA4#8 && t.clocks == 2) = true ∧
    stepGives { placed 0x8000#16 [(0x8000, 0x24#8), (0x8001, 0x10#8), (0x0010, 0xC0#8)] with a := 0x01#8 }
      (fun t => t.a == 0x01#8 && t.resolveToP.packedP false == 0xE6#8 && t.clocks == 3) = true ∧
    stepGives { placed 0x8000#16 [(0x8000, 0x24#8), (0x8001, 0x10#8), (0x0010, 0x3F#8)] with a := 0xFF#8, nr := 0x80#8, p := 0x64#8 }
      (fun t => t.a == 0xFF#8 && t.resolveToP.packedP false == 0x24#8 && t.clocks == 3) = true := by
  decide +kernel

/-- 95_test_vectors.md, vectors 60 `INC $10`, 63 `INC $02FF,X`, 61 `DEC $10`, 64 `DEC $FF,X`, 65 `INX`, 66 `INY`, 67
`DEX`, 68 `DEY`. -/
theorem test_vectors_increment_decrement :
    stepGives { placed 0x8000#16 [(0x8000, 0xE6#8), (0x8001, 0x10#8), (0x0010, 0xFF#8)] with cr := true }
      (fun t => t.platform.peek 0x0010#16 == 0x00#8 && t.resolveToP.packedP false == 0x27#8 && t.clocks == 5) = true ∧
    stepGives { placed 0x8000#16 [(0x8000, 0xFE#8), (0x8001, 0xFF#8), (0x8002, 0x02#8), (0x0300, 0x00#8)] with x := 0x01#8 }
      (fun t => t.platform.peek 0x0300#16 == 0x01#8 && t.resolveToP.packedP false == 0x24#8 && t.clocks == 7) = true ∧
    stepGives (placed 0x8000#16 [(0x8000, 0xC6#8), (0x8001, 0x10#8), (0x0010, 0x00#8)])
      (fun t => t.platform.peek 0x0010#16 == 0xFF#8 && t.resolveToP.packedP false == 0xA4#8 && t.clocks == 5) = true ∧
    stepGives { placed 0x8000#16 [(0x8000, 0xD6#8), (0x8001, 0xFF#8), (0x0000, 0x01#8)] with x := 0x01#8 }
      (fun t => t.platform.peek 0x0000#16 == 0x00#8 && t.resolveToP.packedP false == 0x26#8 && t.clocks == 6) = true ∧
    stepGives { placed 0x8000#16 [(0x8000, 0xE8#8)] with x := 0xFF#8 }
      (fun t => t.x == 0x00#8 && t.resolveToP.packedP false == 0x26#8 && t.clocks == 2) = true ∧
    stepGives { placed 0x8000#16 [(0x8000, 0xC8#8)] with y := 0x7F#8 }
      (fun t => t.y == 0x80#8 && t.resolveToP.packedP false == 0xA4#8 && t.clocks == 2) = true ∧
    stepGives { placed 0x8000#16 [(0x8000, 0xCA#8)] with x := 0x00#8 }
      (fun t => t.x == 0xFF#8 && t.resolveToP.packedP false == 0xA4#8 && t.clocks == 2) = true ∧
    stepGives { placed 0x8000#16 [(0x8000, 0x88#8)] with y := 0x01#8 }
      (fun t => t.y == 0x00#8 && t.resolveToP.packedP false == 0x26#8 && t.clocks == 2) = true := by
  decide +kernel

/-- 95_test_vectors.md, vectors 70 `ASL A`, 78 `ASL $10`, 72 `LSR A`, 79 `LSR $0300`, 73 `ROL A`, 80 `ROL $0300,X`, 75
`ROR A`, 81 `ROR $10,X`. -/
theorem test_vectors_shift_rotate :
    stepGives { placed 0x8000#16 [(0x8000, 0x0A#8)] with a := 0x41#8, cr := true }
      (fun t => t.a == 0x82#8 && t.resolveToP.packedP false == 0xA4#8 && t.clocks == 2) = true ∧
    stepGives (placed 0x8000#16 [(0x8000, 0x06#8), (0x8001, 0x10#8), (0x0010, 0x55#8)])
      (fun t => t.platform.peek 0x0010#16 == 0xAA#8 && t.resolveToP.packedP false == 0xA4#8 && t.clocks == 5) = true ∧
    stepGives { placed 0x8000#16 [(0x8000, 0x4A#8)] with a := 0x80#8, cr := true, nr := 0x80#8 }
      (fun t => t.a == 0x40#8 && t.resolveToP.packedP false == 0x24#8 && t.clocks == 2) = true ∧
    stepGives (placed 0x8000#16 [(0x8000, 0x4E#8), (0x8001, 0x00#8), (0x8002, 0x03#8), (0x0300, 0x03#8)])
      (fun t => t.platform.peek 0x0300#16 == 0x01#8 && t.resolveToP.packedP false == 0x25#8 && t.clocks == 6) = true ∧
    stepGives { placed 0x8000#16 [(0x8000, 0x2A#8)] with a := 0x80#8, cr := true }
      (fun t => t.a == 0x01#8 && t.resolveToP.packedP false == 0x25#8 && t.clocks == 2) = true ∧
    stepGives { placed 0x8000#16 [(0x8000, 0x3E#8), (0x8001, 0x00#8), (0x8002, 0x03#8), (0x0302, 0xFF#8)] with x := 0x02#8, cr := false }
      (fun t => t.platform.peek 0x0302#16 == 0xFE#8 && t.resolveToP.packedP false == 0xA5#8 && t.clocks == 7) = true ∧
    stepGives { placed 0x8000#16 [(0x8000, 0x6A#8)] with a := 0x01#8, cr := true }
      (fun t => t.a == 0x80#8 && t.resolveToP.packedP false == 0xA5#8 && t.clocks == 2) = true ∧
    stepGives { placed 0x8000#16 [(0x8000, 0x76#8), (0x8001, 0x10#8), (0x0011, 0x02#8)] with x := 0x01#8, cr := true }
      (fun t => t.platform.peek 0x0011#16 == 0x81#8 && t.resolveToP.packedP false == 0xA4#8 && t.clocks == 6) = true := by
  decide +kernel

/-- 95_test_vectors.md, vectors 82 `CLC`, 83 `SEC`, 84 `CLI`, 85 `SEI`, 86 `CLV`, 87 `CLD`, 88 `SED`, 100 `NOP`. -/
theorem test_vectors_flag_nop :
    stepGives { placed 0x8000#16 [(0x8000, 0x18#8)] with cr := true }
      (fun t => t.resolveToP.packedP false == 0x24#8 && t.clocks == 2) = true ∧
    stepGives { placed 0x8000#16 [(0x8000, 0x38#8)] with cr := false }
      (fun t => t.resolveToP.packedP false == 0x25#8 && t.clocks == 2) = true ∧
    stepGives { placed 0x8000#16 [(0x8000, 0x58#8)] with p := 0x24#8 }
      (fun t => t.resolveToP.packedP false == 0x20#8 && t.clocks == 2) = true ∧
    stepGives { placed 0x8000#16 [(0x8000, 0x78#8)] with p := 0x20#8 }
      (fun t => t.resolveToP.packedP false == 0x24#8 && t.clocks == 2) = true ∧
    stepGives { placed 0x8000#16 [(0x8000, 0xB8#8)] with p := 0x64#8 }
      (fun t => t.resolveToP.packedP false == 0x24#8 && t.clocks == 2) = true ∧
    stepGives { placed 0x8000#16 [(0x8000, 0xD8#8)] with p := 0x2C#8 }
      (fun t => t.resolveToP.packedP false == 0x24#8 && t.clocks == 2) = true ∧
    stepGives { placed 0x8000#16 [(0x8000, 0xF8#8)] with p := 0x24#8 }
      (fun t => t.resolveToP.packedP false == 0x2C#8 && t.clocks == 2) = true ∧
    stepGives (placed 0xFFFF#16 [(0xFFFF, 0xEA#8)])
      (fun t => t.pc == 0x0000#16 && t.resolveToP.packedP false == 0x24#8 && t.clocks == 2) = true := by
  decide +kernel

/-- 95_test_vectors.md, vectors 90 `PHA`, 92 `PHP`, 94 `PLA`, 95 `PLA`, 96 `PLP`, 97 `PLP`. -/
theorem test_vectors_stack :
    stepGives { placed 0x8000#16 [(0x8000, 0x48#8)] with a := 0x99#8, sp := 0x00#8 }
      (fun t => t.platform.peek 0x0100#16 == 0x99#8 && t.sp == 0xFF#8 && t.resolveToP.packedP false == 0x24#8 && t.clocks == 3) = true ∧
    stepGives { placed 0x8000#16 [(0x8000, 0x08#8)] with nr := 0x80#8, zr := 0x00#8, cr := true, p := 0x6C#8 }
      (fun t => t.platform.peek 0x01FD#16 == 0xFF#8 && t.sp == 0xFC#8 && t.resolveToP.packedP false == 0xEF#8 && t.clocks == 3) = true ∧
    stepGives { placed 0x8000#16 [(0x8000, 0x68#8), (0x01FD, 0x00#8)] with sp := 0xFC#8, a := 0x55#8 }
      (fun t => t.a == 0x00#8 && t.sp == 0xFD#8 && t.resolveToP.packedP false == 0x26#8 && t.clocks == 4) = true ∧
    stepGives { placed 0x8000#16 [(0x8000, 0x68#8), (0x0100, 0x80#8)] with sp := 0xFF#8 }
      (fun t => t.a == 0x80#8 && t.sp == 0x00#8 && t.resolveToP.packedP false == 0xA4#8 && t.clocks == 4) = true ∧
    stepGives { placed 0x8000#16 [(0x8000, 0x28#8), (0x01FD, 0xFF#8)] with sp := 0xFC#8 }
      (fun t => t.resolveToP.packedP false == 0xEF#8 && t.sp == 0xFD#8 && t.clocks == 4) = true ∧
    stepGives { placed 0x8000#16 [(0x8000, 0x28#8), (0x01FD, 0x00#8)] with sp := 0xFC#8 }
      (fun t => t.resolveToP.packedP false == 0x20#8 && t.clocks == 4) = true := by
  decide +kernel

/-- 95_test_vectors.md, vectors 101 `JMP $1234`, 102 `JMP $8000`, 103 `JMP ($0300)`, 104 `JMP ($30FF)`. -/
theorem test_vectors_jump :
    stepGives (placed 0x8000#16 [(0x8000, 0x4C#8), (0x8001, 0x34#8), (0x8002, 0x12#8)])
      (fun t => t.pc == 0x1234#16 && t.resolveToP.packedP false == 0x24#8 && t.clocks == 3) = true ∧
    stepGives { placed 0x8000#16 [(0x8000, 0x4C#8), (0x8001, 0x00#8), (0x8002, 0x80#8)] with clocks := 100, nextStop := 1000 }
      (fun t => t.pc == 0x8000#16 && t.resolveToP.packedP false == 0x24#8 && t.clocks == 1000) = true ∧
    stepGives (placed 0x8000#16 [(0x8000, 0x6C#8), (0x8001, 0x00#8), (0x8002, 0x03#8), (0x0300, 0x00#8), (0x0301, 0x80#8)])
      (fun t => t.pc == 0x8000#16 && t.resolveToP.packedP false == 0x24#8 && t.clocks == 5) = true ∧
    stepGives (placed 0x8000#16 [(0x8000, 0x6C#8), (0x8001, 0xFF#8), (0x8002, 0x30#8), (0x30FF, 0x34#8), (0x3000, 0x12#8), (0x3100, 0x56#8)])
      (fun t => t.pc == 0x1234#16 && t.resolveToP.packedP false == 0x24#8 && t.clocks == 5) = true := by
  decide +kernel

/-- 95_test_vectors.md, vectors 106 `JSR $9000`, 107 `JSR $9000`, 108 `RTS`, 109 `RTS`. -/
theorem test_vectors_call_return :
    stepGives { placed 0x8000#16 [(0x8000, 0x20#8), (0x8001, 0x00#8), (0x8002, 0x90#8)] with sp := 0xFD#8, jsrPushOffset := .two }
      (fun t => t.pc == 0x9000#16 && t.platform.peek 0x01FD#16 == 0x80#8 && t.platform.peek 0x01FC#16 == 0x02#8 && t.sp == 0xFB#8 && t.resolveToP.packedP false == 0x24#8 && t.clocks == 6) = true ∧
    stepGives { placed 0xFFFE#16 [(0xFFFE, 0x20#8), (0xFFFF, 0x00#8), (0x0000, 0x90#8)] with sp := 0x00#8, jsrPushOffset := .three }
      (fun t => t.pc == 0x9000#16 && t.platform.peek 0x0100#16 == 0x00#8 && t.platform.peek 0x01FF#16 == 0x01#8 && t.sp == 0xFE#8 && t.resolveToP.packedP false == 0x24#8 && t.clocks == 6) = true ∧
    stepGives { placed 0x8000#16 [(0x8000, 0x60#8), (0x01FC, 0x05#8), (0x01FD, 0x80#8)] with sp := 0xFB#8 }
      (fun t => t.pc == 0x8006#16 && t.sp == 0xFD#8 && t.resolveToP.packedP false == 0x24#8 && t.clocks == 6) = true ∧
    stepGives { placed 0x8000#16 [(0x8000, 0x60#8), (0x01FC, 0xFF#8), (0x01FD, 0xFF#8)] with sp := 0xFB#8 }
      (fun t => t.pc == 0x0000#16 && t.resolveToP.packedP false == 0x24#8 && t.clocks == 6) = true := by
  decide +kernel

/-- 95_test_vectors.md, vectors 110 `RTI`, 111 `BRK`, 112 `BRK`. -/
theorem test_vectors_brk_rti :
    stepGives { placed 0x8000#16 [(0x8000, 0x40#8), (0x01FB, 0xF3#8), (0x01FC, 0x03#8), (0x01FD, 0x80#8)] with sp := 0xFA#8 }
      (fun t => t.pc == 0x8003#16 && t.resolveToP.packedP false == 0xE3#8 && t.sp == 0xFD#8 && t.clocks == 6) = true ∧
    stepGives { placed 0x8000#16 [(0x8000, 0x00#8), (0x8001, 0xEA#8), (0xFFFE, 0x00#8), (0xFFFF, 0x90#8)] with sp := 0xFD#8 }
      (fun t => t.pc == 0x9000#16 && t.platform.peek 0x01FD#16 == 0x80#8 && t.platform.peek 0x01FC#16 == 0x02#8 && t.platform.peek 0x01FB#16 == 0x34#8 && t.sp == 0xFA#8 && t.iFlag == true && t.resolveToP.packedP false == 0x24#8 && t.clocks == 7) = true ∧
    stepGives { placed 0x8000#16 [(0x8000, 0x00#8), (0x8001, 0xEA#8), (0xFFFE, 0x00#8), (0xFFFF, 0x90#8)] with cr := true, nr := 0x80#8, p := 0x20#8 }
      (fun t => t.pc == 0x9000#16 && t.platform.peek 0x01FB#16 == 0xB1#8 && t.resolveToP.packedP false == 0xA5#8 && t.clocks == 7) = true := by
  decide +kernel

/-- 95_test_vectors.md, vectors 114 `BPL *+18`, 115 `BMI *+18`, 117 `BVC *+18`, 119 `BVS *+18`, 121 `BCC *+18`, 123
`BCS *+18`, 127 `BEQ *+18`, 130 `BNE -3`, 136 `BNE +2`. -/
theorem test_vectors_branch :
    stepGives { placed 0x8000#16 [(0x8000, 0x10#8), (0x8001, 0x10#8)] with nr := 0x80#8 }
      (fun t => t.pc == 0x8002#16 && t.clocks == 2) = true ∧
    stepGives { placed 0x8000#16 [(0x8000, 0x30#8), (0x8001, 0x10#8)] with nr := 0x80#8 }
      (fun t => t.pc == 0x8012#16 && t.clocks == 3) = true ∧
    stepGives { placed 0x8000#16 [(0x8000, 0x50#8), (0x8001, 0x10#8)] with p := 0x24#8 }
      (fun t => t.pc == 0x8012#16 && t.clocks == 3) = true ∧
    stepGives { placed 0x8000#16 [(0x8000, 0x70#8), (0x8001, 0x10#8)] with p := 0x64#8 }
      (fun t => t.pc == 0x8012#16 && t.clocks == 3) = true ∧
    stepGives { placed 0x8000#16 [(0x8000, 0x90#8), (0x8001, 0x10#8)] with cr := false }
      (fun t => t.pc == 0x8012#16 && t.clocks == 3) = true ∧
    stepGives { placed 0x8000#16 [(0x8000, 0xB0#8), (0x8001, 0x10#8)] with cr := true }
      (fun t => t.pc == 0x8012#16 && t.clocks == 3) = true ∧
    stepGives { placed 0x8000#16 [(0x8000, 0xF0#8), (0x8001, 0x10#8)] with zr := 0x00#8 }
      (fun t => t.pc == 0x8012#16 && t.clocks == 3) = true ∧
    stepGives { placed 0x8000#16 [(0x8000, 0xD0#8), (0x8001, 0xFD#8)] with zr := 0x01#8 }
      (fun t => t.pc == 0x7FFF#16 && t.clocks == 4) = true ∧
    stepGives { placed 0xFFFD#16 [(0xFFFD, 0xD0#8), (0xFFFE, 0x02#8)] with zr := 0x01#8 }
      (fun t => t.pc == 0x0001#16 && t.clocks == 4) = true := by
  decide +kernel

/-! Exceptions, the scheduler and reset: 95_test_vectors.md section 2.5. -/

/-- The vectors and the reset address of the section's examples. -/
def vectors : List Host.Cell :=
  [(0xFFFB, 0xA0#8), (0xFFFD, 0x80#8), (0xFFFF, 0x90#8)]

/-- Section 2.5, illegal opcode. -/
theorem test_illegal_opcode_halts :
    stepGives { placed 0x8000#16 [(0x8000, 0x02#8)] with a := 0x12#8 }
      (fun t => t.halted && t.pc == 0x8000#16 && t.clocks == 0 && t.a == 0x12#8 && t.sp == 0xFD#8) = true := by
  decide +kernel

/-- Section 2.5, `IRQ()` after reset: masked. -/
theorem test_irq_masked_after_reset : irq (placed 0x8000#16 vectors) = placed 0x8000#16 vectors := by
  decide +kernel

/-- Section 2.5, `IRQ()` with I = 0, C = 1. -/
theorem test_irq_enters :
    (let t := irq { placed 0x8123#16 vectors with p := 0x20#8, cr := true }
     t.platform.peek 0x01FD#16 == 0x81#8 && t.platform.peek 0x01FC#16 == 0x23#8 &&
       t.platform.peek 0x01FB#16 == 0x21#8 && t.sp == 0xFA#8 && t.pc == 0x9000#16 && t.iFlag && t.clocks == 7) =
      true := by
  decide +kernel

/-- Section 2.5, NMI with an empty batch. -/
theorem test_nmi_empty_batch :
    batchGives { placed 0x80FF#16 vectors with iface := ⟨0, 0, true⟩ }
      (fun t => t.nextStop == 0 && t.platform.peek 0x01FD#16 == 0x80#8 && t.platform.peek 0x01FC#16 == 0xFF#8 &&
        t.platform.peek 0x01FB#16 == 0x24#8 && t.sp == 0xFA#8 && t.pc == 0xA000#16 && !t.iface.nmiPending &&
        t.clocks == 7) = true := by
  decide +kernel

/-- Five NOPs at 0x8000, as many as the overrun example runs. -/
def fiveNops : List Host.Cell :=
  vectors ++ [(0x8000, 0xEA#8), (0x8001, 0xEA#8), (0x8002, 0xEA#8), (0x8003, 0xEA#8), (0x8004, 0xEA#8)]

/-- Section 2.5, overrun. -/
theorem test_batch_overruns_by_one :
    batchGives { placed 0x8000#16 fiveNops with iface := ⟨9, 0, false⟩ }
      (fun t => t.nextStop == 9 && t.clocks == 10 && t.pc == 0x8005#16) = true := by
  decide +kernel

/-- Section 2.5, NMI shrink. -/
theorem test_nmi_shrinks_boundary :
    batchGives { placed 0x8000#16 fiveNops with iface := ⟨100, 0, true⟩ }
      (fun t => t.nextStop == 7 && t.clocks == 15 && t.pc == 0xA000#16 && t.platform.peek 0x01FC#16 == 0x04#8 &&
        !t.iface.nmiPending) = true := by
  decide +kernel

/-- Section 2.5, reset with the vector 0x1234. -/
theorem test_reset_takes_vector :
    (let t := resetCore { placed 0x8000#16 [(0xFFFC, 0x34#8), (0xFFFD, 0x12#8)] with a := 0x55#8, halted := true }
     t.pc == 0x1234#16 && t.a == 0x00#8 && t.sp == 0xFD#8 && t.p == 0x24#8 && t.zr == 0x01#8 && t.clocks == 0 &&
       !t.halted) = true := by
  decide +kernel

/-- Section 1, S6, the row Z = 1, N = 1, C = 0. -/
theorem test_status_round_trip :
    (let t := ({ State.reset with zr := 0x00#8, nr := 0x80#8, cr := false }).resolveToP.resolveFromP
     t.zFlag && t.nFlag && !t.cFlag && t.zr == 0x00#8 && t.nr == 0x80#8) = true := by
  decide

/-- R64, R362: repointing page 0 or `STACK_PAGE` is refused by name; any other page moves (R61). -/
theorem test_repoint :
    move (.repoint 0x00#8 7) State.reset = .refused .ramPageRepointed ∧
    move (.repoint 0x01#8 7) State.reset = .refused .ramPageRepointed ∧
    (State.resetPlatform.repoint ⟨0x02#8, rfl⟩ 7).locate 0x0280#16 = 0x0780 :=
  ⟨rfl, rfl, by decide⟩

/-- Writing what an unlisted byte reads as removes the entry, so that equal memories are equal data. -/
theorem test_memory_canonical :
    Memory.write (Memory.write [] 5 0x12#8) 5 0x00#8 = [] ∧ Memory.wf (Memory.write [(9, 0x01#8)] 5 0x12#8) = true := by
  decide

/-! Witnesses: concrete states and operands that meet the hypotheses of each obligation, clause by clause. -/

/-- A platform with one device page to read and write, 0x20, and page 0x03 showing storage page 2. -/
def devicePlatform : Platform :=
  { State.resetPlatform with map := [(3, 2)], readIo := [0x20#8], writeIo := [0x20#8] }

/-- The reset state on that platform, with X = 0x01. -/
def deviceState : State := { State.reset with x := 0x01#8, platform := devicePlatform }

/-- A state about to run NOP at 0xFFFF, its other fetch bytes wrapped. -/
def nopState : State :=
  { placed 0xFFFF#16 [(0xFFFF, 0xEA#8)] with nextStop := 100 }

/-- The answer is that next state. -/
def nextIs (r : Result) (t : State) : Bool :=
  match r with
  | .next u => decide (u = t)
  | .fault _ => false
  | .refused _ => false

theorem next_of_nextIs {r : Result} {t : State} (h : nextIs r t = true) : r = .next t := by
  cases r with
  | next u => exact congrArg _ (of_decide_eq_true h)
  | fault f => cases h
  | refused f => cases h

theorem witness_IllegalOpcodesHalt :
    (placed 0xFFFE#16 [(0xFFFE, 0x02#8)]).halted = false ∧ FetchPlain (placed 0xFFFE#16 [(0xFFFE, 0x02#8)]) ∧
    (fetch (placed 0xFFFE#16 [(0xFFFE, 0x02#8)])).1.1 ∈ illegalOpcodes ∧
    (placed 0xFFFE#16 [(0xFFFE, 0x02#8)]).platform.peek 0xFFFE#16 ∈ illegalOpcodes :=
  ⟨rfl, ⟨by decide, by decide, by decide⟩, by decide +kernel, by decide +kernel⟩

/-- A state about to run a batch that meets the illegal opcode 0x02. -/
def haltingState : State :=
  { State.reset with
    pc := 0xFFFF#16, iface := ⟨100, 0, false⟩
    platform := { State.resetPlatform with store := [(0xFFFF, 0x02#8)] } }

theorem witness_StepRunsDecodedInstruction :
    nopState.halted = false ∧ FetchPlain nopState ∧
    decode [(fetch nopState).1.1, (fetch nopState).1.2.1, (fetch nopState).1.2.2] = .ok (.nop, [0x00#8, 0x00#8]) ∧
    decode [nopState.platform.peek nopState.pc, nopState.platform.peek (nopState.pc + 1#16),
      nopState.platform.peek (nopState.pc + 2#16)] = .ok (.nop, [0x00#8, 0x00#8]) :=
  ⟨rfl, ⟨by decide, by decide, by decide⟩, by decide +kernel, by decide +kernel⟩

/-- A halted state; a move of one; a run that halts on an illegal opcode and is then reset; a run that completes. -/
theorem witness_HaltedCoreOnlyLeavesByReset :
    haltingState.halted = false ∧ runMoves [] haltingState = .next haltingState ∧
    move .schedulerStep haltingState = .next { haltingState with nextStop := 100, halted := true } ∧
    move (.repoint 0x02#8 7) { haltingState with halted := true } =
      .next { haltingState with
        halted := true, platform := { haltingState.platform with map := [(2, 7)] } } ∧
    runMoves [.repoint 0x02#8 7] haltingState =
      .next { haltingState with platform := { haltingState.platform with map := [(2, 7)] } } :=
  ⟨rfl, rfl, next_of_nextIs (by decide +kernel), next_of_nextIs (by decide +kernel),
    next_of_nextIs (by decide +kernel)⟩

/-- R334, D22: a run that halts is faulted although a reset follows. -/
theorem test_run_faults_when_halted : runMoves [.schedulerStep, .reset] haltingState = .fault .halted := rfl

theorem witness_PlacedInstructionRuns :
    State.reset.halted = false ∧ decodeTableWord 24 0x1234BD = some (.ldaAbx 0x1234#16) := by
  decide

theorem witness_StepIsTotal : State.reset.halted = false := rfl

/-- The same storage seen at another page, and other storage. -/
theorem witness_BusReadAfterBusWrite :
    deviceState.platform.plainWrite (hi8 0x02FF#16) = true ∧ deviceState.platform.sideEffectFree (hi8 0x03FF#16) = true ∧
    deviceState.platform.locate 0x03FF#16 = deviceState.platform.locate 0x02FF#16 ∧
    deviceState.platform.sideEffectFree (hi8 0xFFFF#16) = true ∧
    deviceState.platform.locate 0xFFFF#16 ≠ deviceState.platform.locate 0x02FF#16 := by
  decide

theorem witness_CanonicalStorageIsExtensional :
    Memory.wf [(0, 0x01#8), (65535, 0xFF#8)] = true ∧
    Memory.wf (Memory.write (Memory.write [] 65535 0xFF#8) 0 0x01#8) = true ∧
    ∀ k, Memory.read [(0, 0x01#8), (65535, 0xFF#8)] k =
      Memory.read (Memory.write (Memory.write [] 65535 0xFF#8) 0 0x01#8) k :=
  ⟨by decide, by decide, fun _ => rfl⟩

theorem witness_VectorsAreLittleEndian :
    deviceState.platform.sideEffectFree (hi8 Config.vecNmi) = true ∧ deviceState.platform.sideEffectFree (hi8 Config.vecReset) = true ∧
    deviceState.platform.sideEffectFree (hi8 Config.vecIrq) = true ∧ deviceState.platform.sideEffectFree (hi8 Config.vecBrk) = true := by
  decide

theorem witness_OperandAccess :
    (MemOperand.abs 0x0000#16).fast = false ∧ (MemOperand.izy 0xFF#8).fast = false ∧
    deviceState.platform.sideEffectFree (hi8 ((MemOperand.abx 0xFFFF#16).ea deviceState)) = true := by
  decide

/-- An indexed store that wraps to address 0, and one in each of the other registers. -/
theorem witness_StoresWriteOnlyTheirByte :
    (Instr.staAbx 0xFFFF#16).row.cls = .store ∧
    memOperandOf (Instr.staAbx 0xFFFF#16).operand = some (.abx 0xFFFF#16) ∧
    storedRegister (Instr.staAbx 0xFFFF#16).row.mnemonic deviceState = some 0x00#8 ∧
    storedRegister (Instr.stxZpy 0xFF#8).row.mnemonic deviceState = some 0x01#8 ∧
    storedRegister (Instr.styAbs 0x0200#16).row.mnemonic deviceState = some 0x00#8 ∧
    deviceState.platform.sideEffectFree (hi8 ((MemOperand.abx 0xFFFF#16).ea deviceState)) = true ∧
    deviceState.platform.plainWrite (hi8 ((MemOperand.abx 0xFFFF#16).ea deviceState)) = true ∧
    deviceState.platform.locate 0xFFFF#16 ≠
      deviceState.platform.locate ((MemOperand.abx 0xFFFF#16).ea deviceState) := by
  decide

theorem witness_ReadModifyWriteChangesOnlyItsByte :
    (Instr.rorZpx 0xFF#8).row.cls = .rmw ∧ memOperandOf (Instr.rorZpx 0xFF#8).operand = some (.zpx 0xFF#8) ∧
    deviceState.platform.sideEffectFree (hi8 ((MemOperand.zpx 0xFF#8).ea deviceState)) = true ∧
    deviceState.platform.plainWrite (hi8 ((MemOperand.zpx 0xFF#8).ea deviceState)) = true ∧
    deviceState.platform.locate 0x00FF#16 ≠
      deviceState.platform.locate ((MemOperand.zpx 0xFF#8).ea deviceState) := by
  decide

theorem witness_PushStoresThenDecrements :
    deviceState.platform.locate 0x01FF#16 ≠ deviceState.platform.locate (cat 0x01#8 deviceState.sp) := by
  decide

/-- The bytes just outside the stack page, and 257 pushes from S = 0x00. -/
theorem witness_StackWrapsInItsPage :
    State.resetPlatform.locate 0x00FF#16 < 256 ∧ 512 ≤ State.resetPlatform.locate 0x0200#16 ∧
    (List.replicate 257 (0x5A#8 : Byte)).length = 257 ∧ ({ State.reset with sp := 0x00#8 } : State).sp = 0x00#8 :=
  ⟨by decide, by decide, List.length_replicate, rfl⟩

theorem witness_JumpAbsolute : (0x0001#16 : Addr) ≠ State.reset.pc ∧ (0x0000#16 : Addr) = State.reset.pc := by
  decide

theorem witness_SubroutineCall :
    ({ State.reset with jsrPushOffset := .two } : State).jsrPushOffset = .two ∧
    State.reset.jsrPushOffset = .three ∧
    State.reset.platform.locate 0x01FB#16 ≠ State.reset.platform.locate (cat 0x01#8 State.reset.sp) ∧
    State.reset.platform.locate 0x01FB#16 ≠ State.reset.platform.locate (cat 0x01#8 (State.reset.sp - 1#8)) := by
  decide

theorem witness_CallAndReturnPair :
    ({ State.reset with jsrPushOffset := .two } : State).jsrPushOffset = .two ∧
    State.reset.jsrPushOffset = .three := by
  decide

/-- Each flag as the reset state has it, and the same flag the other way round. -/
theorem witness_ConditionalBranches :
    State.reset.nFlag = false ∧ ({ State.reset with nr := 0x80#8 } : State).nFlag = true ∧
    State.reset.vFlag = false ∧ ({ State.reset with p := 0x40#8 } : State).vFlag = true ∧
    State.reset.cFlag = false ∧ ({ State.reset with cr := true } : State).cFlag = true ∧
    State.reset.zFlag = false ∧ ({ State.reset with zr := 0x00#8 } : State).zFlag = true := by
  decide

theorem witness_InterruptEntrySavesAndVectors :
    deviceState.platform.sideEffectFree (hi8 Config.vecNmi) = true ∧ deviceState.platform.sideEffectFree (hi8 Config.vecIrq) = true ∧
    deviceState.platform.sideEffectFree (hi8 Config.vecBrk) = true ∧
    deviceState.platform.locate 0x0100#16 ≠ deviceState.platform.locate (cat 0x01#8 deviceState.sp) ∧
    deviceState.platform.locate 0x0100#16 ≠ deviceState.platform.locate (cat 0x01#8 (deviceState.sp - 1#8)) ∧
    deviceState.platform.locate 0x0100#16 ≠ deviceState.platform.locate (cat 0x01#8 (deviceState.sp - 2#8)) := by
  decide

theorem witness_SoftwareInterrupt : deviceState.platform.sideEffectFree 0xFF#8 = true := by
  decide

theorem witness_ReturnUndoesInterruptEntry :
    deviceState.platform.sideEffectFree (hi8 Config.vecNmi) = true ∧ deviceState.platform.sideEffectFree (hi8 Config.vecIrq) = true := by
  decide

theorem witness_MaskableInterrupt :
    ({ State.reset with p := 0x20#8 } : State).iFlag = false ∧ ({ State.reset with p := 0x20#8 } : State).halted = false ∧
    State.reset.iFlag = true ∧ ({ State.reset with p := 0x20#8, halted := true } : State).halted = true := by
  decide

theorem witness_NmiServicedAtEndOfBatch :
    ({ State.reset with iface := ⟨0, 0, true⟩ } : State).iface.nmiPending = true ∧ State.reset.halted = false ∧
    State.reset.iface.nmiPending = false ∧
    ({ State.reset with iface := ⟨0, 0, true⟩, halted := true } : State).halted = true := by
  decide

theorem witness_ResetLeaves : State.reset.platform.sideEffectFree 0xFF#8 = true := by
  decide

theorem witness_StepKeepsInvariant :
    nopState.Inv ∧ step nopState = .next { nopState with pc := 0x0000#16, clocks := 2 } :=
  ⟨⟨by decide, by decide, by decide⟩, next_of_nextIs (by decide +kernel)⟩

/-- A state in which both thresholds have been reached: every move is enabled. -/
def reachedState : State := { nopState with clocks := 10, iface := ⟨10, 5, false⟩ }

theorem witness_MovesKeepInvariant :
    reachedState.Inv ∧
    move (.videoStep 11 true) reachedState = .next { reachedState with iface := ⟨11, 5, true⟩ } ∧
    move (.mapperIrq 0) reachedState = .next { reachedState with iface := ⟨10, 0, false⟩ } ∧
    move (.platformChange ⟨[(0x0700, 0x01#8)], 3⟩) reachedState =
      .next { reachedState with platform := ⟨[(0x0700, 0x01#8), (0xFFFF, 0xEA#8)], [], 3, [], []⟩ } ∧
    move (.repoint 0x02#8 7) reachedState =
      .next { reachedState with platform := ⟨[(0xFFFF, 0xEA#8)], [(2, 7)], 0, [], []⟩ } ∧
    move .schedulerStep reachedState = .next { reachedState with nextStop := 5 } :=
  ⟨⟨by decide, by decide, by decide⟩, next_of_nextIs (by decide +kernel), next_of_nextIs (by decide +kernel),
    next_of_nextIs (by decide +kernel), next_of_nextIs (by decide +kernel), next_of_nextIs (by decide +kernel)⟩

theorem witness_StepKeepsSchedulerState :
    step { nopState with iface := ⟨50, 0, true⟩ } =
      .next { nopState with iface := ⟨50, 0, true⟩, pc := 0x0000#16, clocks := 2 } :=
  next_of_nextIs (by decide +kernel)

/-- An instruction that is not the self-jump, the self-jump, and a step inside a batch. -/
theorem witness_InstructionCostBounds :
    exec .nop nopState = .next { nopState with pc := 0x0000#16, clocks := 2 } ∧
    exec (.jmpAbs 0xFFFF#16) nopState = .next { nopState with clocks := 100 } ∧
    nopState.clocks ≤ nopState.nextStop ∧ step nopState = .next { nopState with pc := 0x0000#16, clocks := 2 } :=
  ⟨next_of_nextIs (by decide +kernel), next_of_nextIs (by decide +kernel), by decide,
    next_of_nextIs (by decide +kernel)⟩

theorem witness_SchedulerStepTerminates : State.reset.halted = false := rfl

/-- A batch that runs one instruction, and one that starts at its boundary. -/
theorem witness_SchedulerStepOverrun :
    schedulerStep { nopState with iface := ⟨1, 0, false⟩ } =
      .next { nopState with iface := ⟨1, 0, false⟩, nextStop := 1, pc := 0x0000#16, clocks := 2 } ∧
    nopState.clocks < boundary { nopState with iface := ⟨1, 0, false⟩ } ∧
    schedulerStep State.reset = .next State.reset ∧ boundary State.reset ≤ State.reset.clocks :=
  ⟨next_of_nextIs (by decide +kernel), by decide, next_of_nextIs (by decide +kernel), by decide⟩

theorem witness_BoundaryIsLeastArmedThreshold :
    ({ State.reset with iface := ⟨9, 1, true⟩ } : State).iface.irqClocks ≠ 0 ∧
    ({ State.reset with iface := ⟨9, 1, true⟩ } : State).iface.nmiPending = true := by
  decide

/-- NOP is on none of the lists. -/
theorem witness_OnlyListedInstructionsWriteFlags :
    exec .nop nopState = .next { nopState with pc := 0x0000#16, clocks := 2 } ∧
    Instr.nop.row.mnemonic ∉ [.lda, .ldx, .ldy, .tax, .tay, .txa, .tya, .tsx, .pla, .inc, .dec, .inx, .iny, .dex, .dey,
      .and, .ora, .eor, .adc, .sbc, .asl, .lsr, .rol, .ror, .cmp, .cpx, .cpy, .bit, .plp, .rti] ∧
    Instr.nop.row.mnemonic ∉ [.adc, .sbc, .asl, .lsr, .rol, .ror, .cmp, .cpx, .cpy, .clc, .sec, .plp, .rti] ∧
    Instr.nop.row.mnemonic ∉ [.adc, .sbc, .bit, .clv, .plp, .rti] ∧
    Instr.nop.row.mnemonic ∉ [.sei, .cli, .plp, .rti, .brk] ∧ Instr.nop.row.mnemonic ∉ [.sed, .cld, .plp, .rti] :=
  ⟨next_of_nextIs (by decide +kernel), by decide, by decide, by decide, by decide, by decide⟩

/-- A shift on memory is outside the list of A's writers, its accumulator form is not. -/
theorem witness_OnlyListedInstructionsWriteRegisters :
    exec (.aslZp 0xFF#8) nopState =
      .next { nopState with zr := 0x00#8, nr := 0x00#8, cr := false, pc := 0x0001#16, clocks := 5 } ∧
    (Instr.aslZp 0xFF#8).row.mnemonic ∉ [.lda, .txa, .tya, .pla, .adc, .sbc, .and, .ora, .eor] ∧
    (Instr.aslZp 0xFF#8).row.mode ≠ .imp ∧
    (Instr.aslZp 0xFF#8).row.mnemonic ∉ [.ldx, .tax, .tsx, .inx, .dex] ∧
    (Instr.aslZp 0xFF#8).row.mnemonic ∉ [.ldy, .tay, .iny, .dey] ∧
    (Instr.aslZp 0xFF#8).row.mnemonic ∉ [.txs, .pha, .php, .pla, .plp, .jsr, .rts, .rti, .brk] :=
  ⟨next_of_nextIs (by decide +kernel), by decide, by decide, by decide, by decide, by decide⟩

theorem witness_OnlyStoresAndPushesChangeStorage :
    exec .aslAcc nopState = .next { nopState with zr := 0x00#8, pc := 0x0000#16, clocks := 2 } ∧
    nopState.platform.readIo = [] ∧
    Instr.aslAcc.row.mnemonic ∉ [.sta, .stx, .sty, .inc, .dec, .pha, .php, .jsr, .brk] ∧
    Instr.aslAcc.row.mode = .imp :=
  ⟨next_of_nextIs (by decide +kernel), rfl, by decide, rfl⟩

theorem witness_CollaboratorsWriteNoCoreRegister :
    reachedState.iface.ppuClocks ≤ reachedState.clocks ∧ reachedState.iface.ppuClocks < 11 ∧
    reachedState.iface.irqClocks ≠ 0 ∧ reachedState.iface.irqClocks ≤ reachedState.clocks ∧
    (0x02#8 : Byte) ≠ 0x00#8 ∧ (0xFF#8 : Byte) ≠ 0x01#8 := by
  decide

end Sys2Proof.Tests
end

section
/-! PROOFS. The invariant of the state (10_state.md R32, log 2) through every operation, every step and every move:
O50 and O51. -/
namespace Sys2Proof.Machine

/-- What `step` can do when it answers a next state: run a decoded instruction on the fetched state, or raise
`IllegalOpcode` on it (R130, R300). -/
theorem step_next_cases {s t : State} (h : step s = .next t) :
    (∃ i, exec i (fetch s).2 = .next t) ∨ t = raiseIllegalOpcode (fetch s).2 := by
  unfold step at h
  split at h
  · cases h
  · split at h
    · next i _ _ => exact .inl ⟨i, h⟩
    · cases h; exact .inr rfl

/-- What an instruction can do, from the state it answers. -/
theorem does_of_exec {i : Instr} {s t : State} (h : exec i s = .next t) : Does i s t := by
  obtain ⟨u, hu, hd⟩ := exec_does i s
  cases hu.symm.trans h
  exact hd

/-- Setting one bit of a byte leaves every other bit. -/
theorem getLsbD_setBit_of_ne (b : Byte) {i j : Nat} (v : Bool) (hi : i < 8) (h : j ≠ i) :
    (setBit b i v).getLsbD j = b.getLsbD j := by
  rw [getLsbD_setBit b i v j hi, if_neg h]

/-! The invariant speaks of the platform and of bits 4 and 5 of `P` only. -/

theorem State.Inv.of_wf {s t : State} (hs : s.Inv) (hp : t.p = s.p) (hwf : t.platform.wf = true) : t.Inv :=
  ⟨hwf, by rw [State.bFlag, hp]; exact hs.break_clear, by rw [State.rFlag, hp]; exact hs.reserved_set⟩

theorem State.Inv.of_eq {s t : State} (hs : s.Inv) (hp : t.p = s.p) (hpl : t.platform = s.platform) : t.Inv :=
  hs.of_wf hp (hpl ▸ hs.platform_wf)

theorem State.Inv.after_setA {s : State} (hs : s.Inv) (v : Byte) : (s.setA v).Inv :=
  hs.of_eq (s.setA_p v) (s.setA_platform v)

theorem State.Inv.after_setPc {s : State} (hs : s.Inv) (v : Addr) : (s.setPc v).Inv :=
  hs.of_eq (s.setPc_p v) (s.setPc_platform v)

theorem State.Inv.after_setClocks {s : State} (hs : s.Inv) (v : Nat) : (s.setClocks v).Inv :=
  hs.of_eq (s.setClocks_p v) (s.setClocks_platform v)

theorem State.Inv.after_setIface {s : State} (hs : s.Inv) (v : Iface) : (s.setIface v).Inv :=
  hs.of_eq (s.setIface_p v) (s.setIface_platform v)

/-- A write of any status bit but Break and the reserved one keeps the invariant. -/
theorem State.Inv.of_setBit {s t : State} (hs : s.Inv) {i : Nat} {v : Bool} (hi : i < 8) (hB : bitB ≠ i)
    (hR : bitR ≠ i) (hp : t.p = setBit s.p i v) (hpl : t.platform = s.platform) : t.Inv where
  platform_wf := hpl ▸ hs.platform_wf
  break_clear := by rw [State.bFlag, hp, getLsbD_setBit_of_ne _ _ hi hB]; exact hs.break_clear
  reserved_set := by rw [State.rFlag, hp, getLsbD_setBit_of_ne _ _ hi hR]; exact hs.reserved_set

theorem State.Inv.after_setV {s : State} (hs : s.Inv) (v : Bool) : (s.setV v).Inv :=
  hs.of_setBit (by decide) (by decide) (by decide) (s.setV_p v) rfl

theorem State.Inv.after_setD {s : State} (hs : s.Inv) (v : Bool) : (s.setD v).Inv :=
  hs.of_setBit (by decide) (by decide) (by decide) (s.setD_p v) rfl

theorem State.Inv.after_setI {s : State} (hs : s.Inv) (v : Bool) : (s.setI v).Inv :=
  hs.of_setBit (by decide) (by decide) (by decide) (s.setI_p v) rfl

theorem State.Inv.after_resolveToP {s : State} (hs : s.Inv) : s.resolveToP.Inv where
  platform_wf := hs.platform_wf
  break_clear := (s.resolveToP_bits bitB).trans hs.break_clear
  reserved_set := (s.resolveToP_bits bitR).trans hs.reserved_set

/-- A status byte loaded from the stack has Break clear and the reserved bit set, whatever was popped (R32). -/
theorem State.Inv.after_loadStatus {s : State} (hs : s.Inv) (v : Byte) : (s.loadStatus v).Inv where
  platform_wf := hs.platform_wf
  break_clear := s.loadStatus_bits v bitB
  reserved_set := s.loadStatus_bits v bitR

/-! Memory, the stack and operands. -/

theorem State.Inv.after_memRead {s : State} (hs : s.Inv) (a : Addr) : (memRead a s).2.Inv :=
  hs.of_wf (memRead_p a s) (memRead_wf a s hs.platform_wf)

theorem State.Inv.after_memRead2 {s : State} (hs : s.Inv) (a : Addr) : (memRead2 a s).2.Inv :=
  (hs.after_memRead a).after_memRead (a + 1#16)

theorem State.Inv.after_push {s : State} (hs : s.Inv) (v : Byte) : (push v s).Inv :=
  hs.of_wf (push_p v s) (push_wf v s hs.platform_wf)

theorem State.Inv.after_pushAddr {s : State} (hs : s.Inv) (w : Addr) : (pushAddr w s).Inv :=
  (hs.after_push (hi8 w)).after_push (lo8 w)

theorem State.Inv.after_pop {s : State} (hs : s.Inv) : (pop s).2.Inv := hs.of_eq (pop_p s) (pop_platform s)

theorem State.Inv.after_popAddr {s : State} (hs : s.Inv) : (popAddr s).2.Inv := hs.after_pop.after_pop

theorem State.Inv.after_fetch {s : State} (hs : s.Inv) : (fetch s).2.Inv :=
  hs.of_wf (fetch_p s) (fetch_wf s hs.platform_wf)

theorem State.Inv.after_readMem {s : State} (hs : s.Inv) (o : MemOperand) : (readMem o s).2.Inv :=
  hs.of_wf (readMem_p o s) (readMem_wf o s hs.platform_wf)

theorem State.Inv.after_readOperand {s : State} (hs : s.Inv) (o : ReadOperand) : (readOperand o s).2.Inv :=
  hs.of_wf (readOperand_p o s) (readOperand_wf o s hs.platform_wf)

theorem State.Inv.after_writeAt {s : State} (hs : s.Inv) (fast : Bool) (a : Addr) (v : Byte) :
    (writeAt fast a v s).Inv :=
  hs.of_wf (writeAt_p fast a v s) (writeAt_wf fast a v s hs.platform_wf)

theorem State.Inv.after_storeOperand {s : State} (hs : s.Inv) (o : MemOperand) (v : Byte) : (storeOperand o v s).Inv :=
  hs.of_wf (storeOperand_p o v s) (storeOperand_wf o v s hs.platform_wf)

theorem State.Inv.after_indirectTarget {s : State} (hs : s.Inv) (w : Addr) : (indirectTarget w s).2.Inv :=
  (hs.after_memRead w).after_memRead (indHighAddr w)

theorem State.Inv.after_finish {s : State} (hs : s.Inv) (r : OpRow) (e : Nat) : (finish r e s).Inv :=
  hs.of_eq (finish_p r e s) (finish_platform r e s)

theorem State.Inv.after_spend {s : State} (hs : s.Inv) (c : Nat) : (spend c s).Inv :=
  hs.of_eq (spend_p c s) (spend_platform c s)

/-! Interrupt entry, return and reset. -/

theorem State.Inv.after_interruptEntry {s : State} (hs : s.Inv) (v : Addr) (b : Bool) : (interruptEntry v b s).Inv := by
  have hpushed := (hs.after_pushAddr s.pc).after_resolveToP.after_push ((pushAddr s.pc s).resolveToP.packedP b)
  rw [interruptEntry_eq]
  exact (((hpushed.after_memRead2 v).after_setPc _).after_setI true).after_setClocks _

theorem State.Inv.after_interruptReturn {s : State} (hs : s.Inv) : (interruptReturn s).Inv :=
  (hs.after_pop.after_loadStatus _).after_popAddr.after_setPc _

/-- `Reset()` sets up the status byte itself; of the state before it only the canonical platform matters (R350). -/
theorem resetCore_inv {s : State} (hwf : s.platform.wf = true) : (resetCore s).Inv :=
  have hp : (resetCore s).p = Config.resetP := rfl
  ⟨memRead2_wf _ _ hwf, by rw [State.bFlag, hp]; decide, by rw [State.rFlag, hp]; decide⟩

/-! The operations of the instructions: only ADC, SBC, BIT, the flag instructions and PLP write `P`. -/

theorem ReadOf.inv {m : Mnemonic} {op : Byte → State → State} (hop : ReadOf m op) (b : Byte) {s : State}
    (hs : s.Inv) : (op b s).Inv := by
  cases hop
  case adc | sbc | bit => exact (hs.after_setV _).of_eq rfl rfl
  all_goals exact hs.of_eq rfl rfl

theorem RmwOf.inv {m : Mnemonic} {op : Byte → State → Byte × State} (hop : RmwOf m op) (b : Byte) {s : State}
    (hs : s.Inv) : (op b s).2.Inv := by
  cases hop <;> exact hs.of_eq rfl rfl

theorem ImpliedOf.inv {m : Mnemonic} {op : State → State} (hop : ImpliedOf m op) {s : State} (hs : s.Inv) :
    (op s).Inv := by
  cases hop
  case cli | sei => exact hs.after_setI _
  case clv => exact hs.after_setV _
  case cld | sed => exact hs.after_setD _
  case pha => exact hs.after_push s.a
  case php => exact hs.after_resolveToP.after_push _
  case plp => exact hs.after_pop.after_loadStatus _
  all_goals exact hs.of_eq rfl rfl

/-- Every instruction keeps the invariant: each template passes it from the accesses through the operation. -/
theorem Does.inv {i : Instr} {s t : State} (h : Does i s t) (hs : s.Inv) : t.Inv := by
  cases h with
  | read r m o op hr hcls hm hop => exact (hop.inv _ (hs.after_readOperand o)).after_finish r _
  | store r o v => exact (hs.after_storeOperand o v).after_finish r 0
  | rmw r m o op hr hcls hmode ho hm hop =>
    exact ((hop.inv _ (hs.after_readMem o)).after_writeAt o.fast (o.ea s) _).after_finish r 0
  | acc r m op hr hcls hmode hm hmn hop => exact ((hop.inv s.a hs).after_setA _).after_finish r 0
  | implied r m op hr hcls hm hop => exact (hop.inv hs).after_finish r 0
  | branch r m cond off => exact hs.of_eq (runBranch_p r cond off s) (runBranch_platform r cond off s)
  | selfJump => exact (hs.after_setPc s.pc).after_setClocks s.nextStop
  | jump w => exact (hs.after_setPc w).after_spend 3
  | jumpIndirect w => exact ((hs.after_indirectTarget w).after_setPc _).after_spend 5
  | call w => exact ((hs.after_pushAddr _).after_setPc w).after_spend 6
  | ret => exact (hs.after_popAddr.after_setPc _).after_spend 6
  | brk => exact (hs.after_setPc _).after_interruptEntry Config.vecBrk true
  | rti => exact hs.after_interruptReturn.after_spend 6

theorem step_inv {s t : State} (hs : s.Inv) (h : step s = .next t) : t.Inv := by
  obtain ⟨i, hi⟩ | rfl := step_next_cases h
  · exact (does_of_exec hi).inv hs.after_fetch
  · exact hs.after_fetch.of_eq rfl rfl

/-- Settles O50: the fetch keeps the invariant, and so does each template an instruction can run. -/
theorem stepKeepsInvariant : Obligations.StepKeepsInvariant :=
  fun _ _ => step_inv

/-! Batches and moves. -/

/-- A batch keeps whatever every step keeps: the induction over its fuel, done once. -/
theorem runBatch_keeps {P : State → Prop} (hstep : ∀ s t, P s → step s = .next t → P t) {fuel : Nat} {s t : State}
    (hs : P s) (h : runBatch fuel s = .next t) : P t := by
  induction fuel generalizing s with
  | zero => cases h; exact hs
  | succ fuel ih =>
    unfold runBatch at h
    split at h
    · split at h
      · next u hu => exact ih (hstep s u hs hu) h
      · cases h
      · cases h
    · cases h; exact hs

/-- What a scheduler step can do: nothing while halted, else a whole batch and its end (R320, R152). -/
theorem schedulerStep_next_cases {s t : State} (h : schedulerStep s = .next t) :
    t = s ∨ ∃ u, batchLoop (s.setNextStop (boundary s)) = .next u ∧ t = endBatch u := by
  unfold schedulerStep at h
  split at h
  · cases h; exact .inl rfl
  · split at h
    · next u hu => cases h; exact .inr ⟨u, hu, rfl⟩
    · cases h
    · cases h

theorem State.Inv.after_endBatch {s : State} (hs : s.Inv) : (endBatch s).Inv := by
  unfold Machine.endBatch
  split
  · exact (hs.after_interruptEntry Config.vecNmi false).after_setIface _
  · exact hs

theorem State.Inv.after_irq {s : State} (hs : s.Inv) : (irq s).Inv := by
  unfold Machine.irq
  split
  · exact hs.after_interruptEntry Config.vecIrq false
  · exact hs

theorem schedulerStep_inv {s t : State} (hs : s.Inv) (h : schedulerStep s = .next t) : t.Inv := by
  obtain rfl | ⟨u, hu, rfl⟩ := schedulerStep_next_cases h
  · exact hs
  · have hstart : (s.setNextStop (boundary s)).Inv := hs.of_eq rfl rfl
    exact (runBatch_keeps (fun _ _ => step_inv) hstart hu).after_endBatch

theorem move_inv {m : Move} {s t : State} (hs : s.Inv) (h : move m s = .next t) : t.Inv := by
  cases m with
  | schedulerStep => exact schedulerStep_inv hs h
  | videoStep ppu req =>
    simp only [move] at h
    split at h <;> cases h
    exact hs.after_setIface _
  | mapperIrq irqAt =>
    simp only [move] at h
    split at h <;> cases h
    exact (hs.after_setIface _).after_irq
  | repoint page target =>
    simp only [move] at h
    split at h <;> cases h
    exact hs.of_wf rfl (Platform.wf_repoint _ _ _ hs.platform_wf)
  | platformChange c =>
    cases h
    exact hs.of_wf rfl (Platform.wf_apply _ _ hs.platform_wf)
  | reset =>
    cases h
    exact resetCore_inv hs.platform_wf

/-- Settles O51: a batch by induction over its steps, every other move by the platform laws and the interrupt entry. -/
theorem movesKeepInvariant : Obligations.MovesKeepInvariant :=
  fun _ _ _ => move_inv

end Sys2Proof.Machine
end

section
/-! PROOFS. The packed status byte and the lazy flags (10_state.md R27, R30): O47. -/
namespace Sys2Proof.Machine

/-- `resolveToP` bit by bit, with the positions of R29 as numbers. -/
theorem State.getLsbD_resolveToP (s : State) (k : Nat) : s.resolveToP.p.getLsbD k =
    if k = 7 then s.nFlag else if k = 1 then s.zFlag else if k = 0 then s.cFlag else s.p.getLsbD k := by
  rw [State.resolveToP_bits]
  by_cases hN : k = 7
  · subst hN; rfl
  by_cases hZ : k = 1
  · subst hZ; rfl
  · simp only [bitC, bitZ, bitN, hN, hZ, if_false]

/-- Unpacking after packing keeps the three predicates. -/
theorem State.resolveFromP_resolveToP_flags (s : State) :
    s.resolveToP.resolveFromP.nFlag = s.nFlag ∧ s.resolveToP.resolveFromP.zFlag = s.zFlag ∧
      s.resolveToP.resolveFromP.cFlag = s.cFlag := by
  refine ⟨?_, ?_, ?_⟩
  · rw [State.resolveFromP_nFlag, State.resolveToP_bits]; rfl
  · rw [State.resolveFromP_zFlag, State.resolveToP_bits]; rfl
  · rw [State.resolveFromP_cFlag, State.resolveToP_bits]; rfl

/-- Packing after unpacking writes back the bits that were there. -/
theorem State.resolveToP_resolveFromP_p (s : State) : s.resolveFromP.resolveToP.p = s.p := by
  refine BitVec.eq_of_getLsbD_eq fun k _ => ?_
  rw [State.resolveToP_bits, State.resolveFromP_cFlag, State.resolveFromP_zFlag, State.resolveFromP_nFlag,
    State.resolveFromP_p]
  split_ifs with hC hZ hN
  · rw [hC]
  · rw [hZ]
  · rw [hN]
  · rfl

/-- Settles O47, bit by bit from the laws of `resolveToP`, `resolveFromP` and `PackedP`. -/
theorem statusPackingRoundTrip : Obligations.StatusPackingRoundTrip := by
  intro s
  exact ⟨⟨rfl, s.getLsbD_resolveToP⟩, s.resolveFromP_resolveToP_flags, ⟨rfl, s.resolveToP_resolveFromP_p⟩,
    getLsbD_packedP s⟩

end Sys2Proof.Machine
end

section
/-! PROOFS. The writers of each flag (10_state.md R33): O57. -/
namespace Sys2Proof.Machine

/-- The mnemonics that write Zero and Negative (R33). -/
def zeroNegativeWriters : List Mnemonic :=
  [.lda, .ldx, .ldy, .tax, .tay, .txa, .tya, .tsx, .pla, .inc, .dec, .inx, .iny, .dex, .dey, .and,
    .ora, .eor, .adc, .sbc, .asl, .lsr, .rol, .ror, .cmp, .cpx, .cpy, .bit, .plp, .rti]

/-- The mnemonics that write Carry (R33). -/
def carryWriters : List Mnemonic := [.adc, .sbc, .asl, .lsr, .rol, .ror, .cmp, .cpx, .cpy, .clc, .sec, .plp, .rti]

/-- The mnemonics that write Overflow (R33). -/
def overflowWriters : List Mnemonic := [.adc, .sbc, .bit, .clv, .plp, .rti]

/-- The mnemonics that write Interrupt-disable (R33). -/
def interruptWriters : List Mnemonic := [.sei, .cli, .plp, .rti, .brk]

/-- The mnemonics that write Decimal (R33). -/
def decimalWriters : List Mnemonic := [.sed, .cld, .plp, .rti]

/-- From `s` to `t` mnemonic `m` has written only flags it is listed for. -/
structure WritesListedFlags (m : Mnemonic) (s t : State) : Prop where
  zeroNegative : m ∉ zeroNegativeWriters → t.zFlag = s.zFlag ∧ t.nFlag = s.nFlag
  carry : m ∉ carryWriters → t.cFlag = s.cFlag
  overflow : m ∉ overflowWriters → t.vFlag = s.vFlag
  interrupt : m ∉ interruptWriters → t.iFlag = s.iFlag
  decimal : m ∉ decimalWriters → t.dFlag = s.dFlag

section
variable {m : Mnemonic} {s t : State}

/-- Where the fields that hold the flags are equal, the flags are. -/
theorem SameFlags.of_fields (hp : t.p = s.p) (hzr : t.zr = s.zr) (hnr : t.nr = s.nr) (hcr : t.cr = s.cr) :
    SameFlags t s where
  negative := congrArg (·.getLsbD 7) hnr
  overflow := congrArg (·.getLsbD bitV) hp
  decimal := congrArg (·.getLsbD bitD) hp
  interrupt := congrArg (·.getLsbD bitI) hp
  zero := congrArg (· == 0x00#8) hzr
  carry := hcr

/-- `resolveToP` writes only positions of `P` that are not live (R28, R30). -/
theorem State.resolveToP_sameFlags (s : State) : SameFlags s.resolveToP s where
  negative := rfl
  overflow := s.resolveToP_bits bitV
  decimal := s.resolveToP_bits bitD
  interrupt := s.resolveToP_bits bitI
  zero := rfl
  carry := rfl

theorem WritesListedFlags.of_sameFlags (h : SameFlags t s) : WritesListedFlags m s t where
  zeroNegative _ := ⟨h.zero, h.negative⟩
  carry _ := h.carry
  overflow _ := h.overflow
  interrupt _ := h.interrupt
  decimal _ := h.decimal

/-- Accesses before an operation do not matter, where they leave every flag. -/
theorem WritesListedFlags.of_same_before {u : State} (h : WritesListedFlags m u t) (hu : SameFlags u s) :
    WritesListedFlags m s t where
  zeroNegative hm := (h.zeroNegative hm).imp (·.trans hu.zero) (·.trans hu.negative)
  carry hm := (h.carry hm).trans hu.carry
  overflow hm := (h.overflow hm).trans hu.overflow
  interrupt hm := (h.interrupt hm).trans hu.interrupt
  decimal hm := (h.decimal hm).trans hu.decimal

/-- Nor does what comes after it, where that leaves every flag. -/
theorem WritesListedFlags.of_same_after {u : State} (h : WritesListedFlags m s u) (hu : SameFlags t u) :
    WritesListedFlags m s t where
  zeroNegative hm := (h.zeroNegative hm).imp hu.zero.trans hu.negative.trans
  carry hm := hu.carry.trans (h.carry hm)
  overflow hm := hu.overflow.trans (h.overflow hm)
  interrupt hm := hu.interrupt.trans (h.interrupt hm)
  decimal hm := hu.decimal.trans (h.decimal hm)

/-- PLP and RTI are on every list. -/
theorem WritesListedFlags.of_listed (hm : m ∈ [.plp, .rti]) : WritesListedFlags m s t := by
  have hall : ∀ m' ∈ [Mnemonic.plp, .rti], m' ∈ zeroNegativeWriters ∧ m' ∈ carryWriters ∧
      m' ∈ overflowWriters ∧ m' ∈ interruptWriters ∧ m' ∈ decimalWriters := by decide
  obtain ⟨hzn, hc, hv, hi, hd⟩ := hall m hm
  exact ⟨absurd hzn, absurd hc, absurd hv, absurd hi, absurd hd⟩

/-- An operation that leaves `P` alone: only the lazy fields have to be looked at. -/
theorem WritesListedFlags.of_p_eq (hzn : m ∈ zeroNegativeWriters ∨ t.zFlag = s.zFlag ∧ t.nFlag = s.nFlag)
    (hc : m ∈ carryWriters ∨ t.cFlag = s.cFlag) (hp : t.p = s.p) : WritesListedFlags m s t where
  zeroNegative h := hzn.resolve_left h
  carry h := hc.resolve_left h
  overflow _ := congrArg (·.getLsbD bitV) hp
  interrupt _ := congrArg (·.getLsbD bitI) hp
  decimal _ := congrArg (·.getLsbD bitD) hp

/-- An operation that writes one bit of `P`: that bit is not a flag, or the mnemonic is on its list. -/
theorem WritesListedFlags.of_setBit {j : Nat} {v : Bool}
    (hzn : m ∈ zeroNegativeWriters ∨ t.zFlag = s.zFlag ∧ t.nFlag = s.nFlag)
    (hc : m ∈ carryWriters ∨ t.cFlag = s.cFlag) (hp : t.p = setBit s.p j v) (hj : j < 8)
    (hv : m ∈ overflowWriters ∨ bitV ≠ j) (hi : m ∈ interruptWriters ∨ bitI ≠ j)
    (hd : m ∈ decimalWriters ∨ bitD ≠ j) : WritesListedFlags m s t where
  zeroNegative h := hzn.resolve_left h
  carry h := hc.resolve_left h
  overflow h := by rw [State.vFlag, hp, getLsbD_setBit_of_ne _ _ hj (hv.resolve_left h)]; rfl
  interrupt h := by rw [State.iFlag, hp, getLsbD_setBit_of_ne _ _ hj (hi.resolve_left h)]; rfl
  decimal h := by rw [State.dFlag, hp, getLsbD_setBit_of_ne _ _ hj (hd.resolve_left h)]; rfl

end

theorem ReadOf.writesListedFlags {m : Mnemonic} {op : Byte → State → State} (hop : ReadOf m op) (b : Byte)
    (s : State) : WritesListedFlags m s (op b s) := by
  cases hop
  case adc | sbc =>
    exact .of_setBit (j := bitV) (.inl (by decide)) (.inl (by decide)) rfl (by decide) (by decide) (by decide)
      (by decide)
  case bit =>
    exact .of_setBit (j := bitV) (.inl (by decide)) (.inr rfl) rfl (by decide) (by decide) (by decide) (by decide)
  case cmp | cpx | cpy => exact .of_p_eq (.inl (by decide)) (.inl (by decide)) rfl
  all_goals exact .of_p_eq (.inl (by decide)) (.inr rfl) rfl

theorem RmwOf.writesListedFlags {m : Mnemonic} {op : Byte → State → Byte × State} (hop : RmwOf m op) (b : Byte)
    (s : State) : WritesListedFlags m s (op b s).2 := by
  cases hop
  case inc | dec => exact .of_p_eq (.inl (by decide)) (.inr rfl) rfl
  all_goals exact .of_p_eq (.inl (by decide)) (.inl (by decide)) rfl

theorem ImpliedOf.writesListedFlags {m : Mnemonic} {op : State → State} (hop : ImpliedOf m op) (s : State) :
    WritesListedFlags m s (op s) := by
  cases hop
  case clc | sec => exact .of_p_eq (.inr ⟨rfl, rfl⟩) (.inl (by decide)) rfl
  case cli | sei =>
    exact .of_setBit (.inr ⟨rfl, rfl⟩) (.inr rfl) (s.setI_p _) (by decide) (by decide) (by decide) (by decide)
  case clv =>
    exact .of_setBit (.inr ⟨rfl, rfl⟩) (.inr rfl) (s.setV_p _) (by decide) (by decide) (by decide) (by decide)
  case cld | sed =>
    exact .of_setBit (.inr ⟨rfl, rfl⟩) (.inr rfl) (s.setD_p _) (by decide) (by decide) (by decide) (by decide)
  case txs | pha | nop => exact .of_sameFlags (.of_fields rfl rfl rfl rfl)
  case php =>
    exact (WritesListedFlags.of_sameFlags s.resolveToP_sameFlags).of_same_after (.of_fields rfl rfl rfl rfl)
  case plp => exact .of_listed (by decide)
  all_goals exact .of_p_eq (.inl (by decide)) (.inr rfl) rfl

/-- BRK's entry writes Interrupt-disable; the rest of the status it only packs (R275, R305). -/
theorem interruptEntry_writesListedFlags (v : Addr) (b : Bool) (s : State) :
    WritesListedFlags .brk s (interruptEntry v b s) :=
  have hentry : WritesListedFlags .brk s.resolveToP (interruptEntry v b s) :=
    .of_setBit (.inr ⟨by simp [State.zFlag], by simp [State.nFlag]⟩) (.inr (interruptEntry_cr v b s))
      (interruptEntry_p v b s) (by decide) (by decide) (by decide) (by decide)
  hentry.of_same_before s.resolveToP_sameFlags

theorem runStore_sameFlags (r : OpRow) (o : MemOperand) (v : Byte) (s : State) :
    SameFlags (runStore r o v s) s := by
  apply SameFlags.of_fields <;> simp [runStore]

/-- Every instruction writes only the flags its mnemonic is listed for. -/
theorem Does.writesListedFlags {i : Instr} {s t : State} (h : Does i s t) :
    WritesListedFlags i.row.mnemonic s t := by
  cases h with
  | read r m o op hr hcls hm hop =>
    subst hr hm
    exact ((hop.writesListedFlags _ _).of_same_before (.of_fields (readOperand_p o s) (readOperand_zr o s)
      (readOperand_nr o s) (readOperand_cr o s))).of_same_after (.of_fields rfl rfl rfl rfl)
  | store r o v =>
    exact .of_sameFlags (runStore_sameFlags r o v s)
  | rmw r m o op hr hcls hmode ho hm hop =>
    subst hr hm
    exact ((hop.writesListedFlags _ _).of_same_before (.of_fields (readMem_p o s) (readMem_zr o s) (readMem_nr o s)
      (readMem_cr o s))).of_same_after
        (.of_fields (writeAt_p _ _ _ _) (writeAt_zr _ _ _ _) (writeAt_nr _ _ _ _) (writeAt_cr _ _ _ _))
  | acc r m op hr hcls hmode hm hmn hop =>
    subst hr hm
    exact (hop.writesListedFlags s.a s).of_same_after (.of_fields rfl rfl rfl rfl)
  | implied r m op hr hcls hm hop =>
    subst hr hm
    exact (hop.writesListedFlags s).of_same_after (.of_fields rfl rfl rfl rfl)
  | branch r m cond off =>
    exact .of_sameFlags (.of_fields (runBranch_p r cond off s) (runBranch_zr r cond off s)
      (runBranch_nr r cond off s) (runBranch_cr r cond off s))
  | selfJump => exact .of_sameFlags (.of_fields rfl rfl rfl rfl)
  | jump w => exact .of_sameFlags (.of_fields rfl rfl rfl rfl)
  | jumpIndirect w => exact .of_sameFlags (.of_fields (by simp) (by simp) (by simp) (by simp))
  | call w => exact .of_sameFlags (.of_fields (by simp) (by simp) (by simp) (by simp))
  | ret => exact .of_sameFlags (.of_fields (by simp) (by simp) (by simp) (by simp))
  | brk hi =>
    subst hi
    exact (interruptEntry_writesListedFlags _ _ (s.setPc _)).of_same_before (.of_fields rfl rfl rfl rfl)
  | rti hi =>
    subst hi
    exact .of_listed (by decide)

/-- Settles O57: each template leaves every flag, and each operation writes only the flags of its mnemonic. -/
theorem onlyListedInstructionsWriteFlags : Obligations.OnlyListedInstructionsWriteFlags := by
  intro i s t h
  have hw := (does_of_exec h).writesListedFlags
  exact ⟨hw.zeroNegative, hw.carry, hw.overflow, hw.interrupt, hw.decimal⟩

end Sys2Proof.Machine
end

section
/-! PROOFS. The writers of each register (10_state.md R22): O58. -/
namespace Sys2Proof.Machine

/-- The mnemonics that write A in every form (R22). -/
def accumulatorWriters : List Mnemonic := [.lda, .txa, .tya, .pla, .adc, .sbc, .and, .ora, .eor]

/-- The mnemonics that write X (R22). -/
def xWriters : List Mnemonic := [.ldx, .tax, .tsx, .inx, .dex]

/-- The mnemonics that write Y (R22). -/
def yWriters : List Mnemonic := [.ldy, .tay, .iny, .dey]

/-- The mnemonics that write S (R22). -/
def stackPointerWriters : List Mnemonic := [.txs, .pha, .php, .pla, .plp, .jsr, .rts, .rti, .brk]

/-- The mnemonics that write A in their accumulator form only (R22, 42_arith_logic.md R224). -/
def shiftMnemonics : List Mnemonic := [.asl, .lsr, .rol, .ror]

/-- From `s` to `t` mnemonic `m` in mode `md` has written only registers it is listed for. -/
structure WritesListedRegisters (m : Mnemonic) (md : Mode) (s t : State) : Prop where
  a : m ∉ accumulatorWriters → (m ∈ shiftMnemonics → md ≠ .imp) → t.a = s.a
  x : m ∉ xWriters → t.x = s.x
  y : m ∉ yWriters → t.y = s.y
  sp : m ∉ stackPointerWriters → t.sp = s.sp

/-- The registers of `t` are those of `s`. -/
structure SameRegisters (t s : State) : Prop where
  a : t.a = s.a
  x : t.x = s.x
  y : t.y = s.y
  sp : t.sp = s.sp

section
variable {m : Mnemonic} {md : Mode} {s t : State}

theorem WritesListedRegisters.of_sameRegisters (h : SameRegisters t s) : WritesListedRegisters m md s t :=
  ⟨fun _ _ => h.a, fun _ => h.x, fun _ => h.y, fun _ => h.sp⟩

/-- A stack instruction that writes no other register. -/
theorem WritesListedRegisters.of_stack (hm : m ∈ stackPointerWriters) (ha : t.a = s.a) (hx : t.x = s.x)
    (hy : t.y = s.y) : WritesListedRegisters m md s t :=
  ⟨fun _ _ => ha, fun _ => hx, fun _ => hy, absurd hm⟩

/-- The end of a step writes PC and `clocks`, no register. -/
theorem WritesListedRegisters.finish (h : WritesListedRegisters m md s t) {r : OpRow} {e : Nat} :
    WritesListedRegisters m md s (finish r e t) :=
  ⟨h.a, h.x, h.y, h.sp⟩

/-- Accesses before an operation do not matter, where they leave every register. -/
theorem WritesListedRegisters.of_same_before {u : State} (h : WritesListedRegisters m md u t)
    (hu : SameRegisters u s) : WritesListedRegisters m md s t where
  a hm hmd := (h.a hm hmd).trans hu.a
  x hm := (h.x hm).trans hu.x
  y hm := (h.y hm).trans hu.y
  sp hm := (h.sp hm).trans hu.sp

end

theorem ReadOf.writesListedRegisters {m : Mnemonic} {op : Byte → State → State} (hop : ReadOf m op) (md : Mode)
    (b : Byte) (s : State) : WritesListedRegisters m md s (op b s) := by
  cases hop
  case ldx => exact ⟨fun _ _ => rfl, absurd (by decide), fun _ => rfl, fun _ => rfl⟩
  case ldy => exact ⟨fun _ _ => rfl, fun _ => rfl, absurd (by decide), fun _ => rfl⟩
  case cmp | cpx | cpy | bit => exact .of_sameRegisters ⟨rfl, rfl, rfl, rfl⟩
  all_goals exact ⟨absurd (by decide), fun _ => rfl, fun _ => rfl, fun _ => rfl⟩

theorem ImpliedOf.writesListedRegisters {m : Mnemonic} {op : State → State} (hop : ImpliedOf m op) (md : Mode)
    (s : State) : WritesListedRegisters m md s (op s) := by
  cases hop
  case txa | tya => exact ⟨absurd (by decide), fun _ => rfl, fun _ => rfl, fun _ => rfl⟩
  case tax | tsx | inx | dex => exact ⟨fun _ _ => rfl, absurd (by decide), fun _ => rfl, fun _ => rfl⟩
  case tay | iny | dey => exact ⟨fun _ _ => rfl, fun _ => rfl, absurd (by decide), fun _ => rfl⟩
  case txs | pha | php => exact .of_stack (by decide) rfl rfl rfl
  case plp => exact .of_stack (by decide) (by simp [pullStatus]) (by simp [pullStatus]) (by simp [pullStatus])
  case pla => exact ⟨absurd (by decide), fun _ => rfl, fun _ => rfl, absurd (by decide)⟩
  all_goals exact .of_sameRegisters ⟨rfl, rfl, rfl, rfl⟩

/-- An rmw operation writes no register: in the accumulator form it is the template that writes A. -/
theorem RmwOf.sameRegisters {m : Mnemonic} {op : Byte → State → Byte × State} (hop : RmwOf m op) (b : Byte)
    (s : State) : SameRegisters (op b s).2 s := by
  cases hop <;> exact ⟨rfl, rfl, rfl, rfl⟩

theorem runStore_sameRegisters (r : OpRow) (o : MemOperand) (v : Byte) (s : State) :
    SameRegisters (runStore r o v s) s := by
  constructor <;> simp [runStore]

/-- A read-modify-write on memory writes no register. -/
theorem runRmw_sameRegisters {m : Mnemonic} {op : Byte → State → Byte × State} (hop : RmwOf m op) (r : OpRow)
    (o : MemOperand) (s : State) : SameRegisters (runRmw r o op s) s := by
  have hreg := hop.sameRegisters (readMem o s).1 (readMem o s).2
  constructor <;> simp [runRmw, hreg.a, hreg.x, hreg.y, hreg.sp]

/-- Every instruction writes only the registers its mnemonic, in its mode, is listed for. -/
theorem Does.writesListedRegisters {i : Instr} {s t : State} (h : Does i s t) :
    WritesListedRegisters i.row.mnemonic i.row.mode s t := by
  cases h with
  | read r m o op hr hcls hm hop =>
    subst hr hm
    have hw := hop.writesListedRegisters i.row.mode (readOperand o s).1 (readOperand o s).2
    have hread : SameRegisters (readOperand o s).2 s :=
      ⟨readOperand_a o s, readOperand_x o s, readOperand_y o s, readOperand_sp o s⟩
    exact (hw.of_same_before hread).finish
  | store r o v =>
    exact .of_sameRegisters (runStore_sameRegisters r o v s)
  | rmw r m o op hr hcls hmode ho hm hop => exact .of_sameRegisters (runRmw_sameRegisters hop r o s)
  | acc r m op hr hcls hmode hm hmn hop =>
    subst hr hm
    have hreg := hop.sameRegisters s.a s
    exact ⟨fun _ hmd => absurd hmode (hmd hmn), fun _ => hreg.x, fun _ => hreg.y, fun _ => hreg.sp⟩
  | implied r m op hr hcls hm hop =>
    subst hr hm
    exact (hop.writesListedRegisters i.row.mode s).finish
  | branch r m cond off =>
    exact .of_sameRegisters
      ⟨runBranch_a r cond off s, runBranch_x r cond off s, runBranch_y r cond off s, runBranch_sp r cond off s⟩
  | selfJump => exact .of_sameRegisters ⟨rfl, rfl, rfl, rfl⟩
  | jump w => exact .of_sameRegisters ⟨rfl, rfl, rfl, rfl⟩
  | jumpIndirect w => exact .of_sameRegisters (by constructor <;> simp)
  | call w hi =>
    subst hi
    exact .of_stack (m := .jsr) (by decide) (by simp) (by simp) (by simp)
  | ret hi =>
    subst hi
    exact .of_stack (by decide) (by simp) (by simp) (by simp)
  | brk hi =>
    subst hi
    exact .of_stack (by decide) (by simp) (by simp) (by simp)
  | rti hi =>
    subst hi
    exact .of_stack (by decide) (by simp) (by simp) (by simp)

/-- Settles O58: the templates write a register only through their operation, the accumulator template A. -/
theorem onlyListedInstructionsWriteRegisters : Obligations.OnlyListedInstructionsWriteRegisters := by
  intro i s t h
  have hw := (does_of_exec h).writesListedRegisters
  exact ⟨hw.a, hw.x, hw.y, hw.sp⟩

end Sys2Proof.Machine
end

section
/-! PROOFS. The fast path and the bus at the `RAM` pages (20_memory.md R64, R67), and the vector reads (R70, R72):
O10 and O12. -/
namespace Sys2Proof.Machine

/-! Page 0 and `STACK_PAGE` are plain on every platform, so the bus does there what the fast path does. -/

theorem Platform.sideEffectFree_of_ram (pl : Platform) {p : Byte} (h : isRamPage p = true) :
    pl.sideEffectFree p = true := by
  simp [Platform.sideEffectFree, h]

theorem Platform.plainWrite_of_ram (pl : Platform) {p : Byte} (h : isRamPage p = true) :
    pl.plainWrite p = true := by
  simp [Platform.plainWrite, h]

theorem isRamPage_hi8_zpAddr (o : Byte) : isRamPage (hi8 (zpAddr o)) = true := by
  rw [zpAddr, hi8_cat]
  decide

theorem isRamPage_hi8_stackAddr (o : Byte) : isRamPage (hi8 (stackAddr o)) = true := by
  rw [stackAddr, hi8_cat]
  decide

theorem memRead_zpAddr (o : Byte) (s : State) : memRead (zpAddr o) s = (zpRead o s, s) :=
  memRead_plain _ s (s.platform.sideEffectFree_of_ram (isRamPage_hi8_zpAddr o))

theorem memWrite_zpAddr (o v : Byte) (s : State) : memWrite (zpAddr o) v s = zpWrite o v s :=
  memWrite_plain _ v s (s.platform.plainWrite_of_ram (isRamPage_hi8_zpAddr o))

theorem memRead_stackAddr (o : Byte) (s : State) : memRead (stackAddr o) s = (stackRead o s, s) :=
  memRead_plain _ s (s.platform.sideEffectFree_of_ram (isRamPage_hi8_stackAddr o))

theorem memWrite_stackAddr (o v : Byte) (s : State) : memWrite (stackAddr o) v s = stackWrite o v s :=
  memWrite_plain _ v s (s.platform.plainWrite_of_ram (isRamPage_hi8_stackAddr o))

theorem toNat_zpAddr (o : Byte) : (zpAddr o).toNat = o.toNat := by
  simp [zpAddr, toNat_cat]

theorem toNat_stackAddr (o : Byte) : (stackAddr o).toNat = 256 + o.toNat := by
  simp [stackAddr, Config.stackPage, toNat_cat]

/-- Settles O10: the two `RAM` pages are plain, and at a plain page a bus access is the access of the fast path. -/
theorem fastPathAgreesWithBus : Obligations.FastPathAgreesWithBus :=
  ⟨fun s o v => ⟨memRead_zpAddr o s, memWrite_zpAddr o v s, memRead_stackAddr o s, memWrite_stackAddr o v s,
    toNat_zpAddr o, toNat_stackAddr o⟩, fun s a => fetchByte_eq_memRead a s⟩

/-! The two-byte read. -/

/-- A two-byte read is little-endian: the byte at the address is the low one (R72). -/
theorem toNat_memRead2 (a : Addr) (s : State) :
    (memRead2 a s).1.toNat = (memRead a s).1.toNat + 256 * (memRead (a + 1#16) (memRead a s).2).1.toNat := by
  rw [memRead2, toNat_cat]
  omega

/-- Two `Peek`s that change nothing, where both bytes lie in side-effect-free pages (R67). -/
theorem memRead2_plain (a : Addr) (s : State) (hlo : s.platform.sideEffectFree (hi8 a) = true)
    (hhi : s.platform.sideEffectFree (hi8 (a + 1#16)) = true) :
    memRead2 a s = (cat (s.platform.peek (a + 1#16)) (s.platform.peek a), s) := by
  simp only [memRead2, memRead_plain a s hlo, memRead_plain (a + 1#16) s hhi]

/-- No vector straddles two pages (R70). -/
theorem hi8_vector_succ {a : Addr}
    (ha : a = Config.vecNmi ∨ a = Config.vecReset ∨ a = Config.vecIrq ∨ a = Config.vecBrk) :
    hi8 (a + 1#16) = hi8 a := by
  rcases ha with rfl | rfl | rfl | rfl <;> decide

/-- Settles O12: a vector read is `MemRead(v, 2)`, and both bytes of a vector lie in one page. -/
theorem vectorsAreLittleEndian : Obligations.VectorsAreLittleEndian := by
  intro s a ha
  refine ⟨toNat_memRead2 a s, rfl, fun hlo => ?_⟩
  have hhi : s.platform.sideEffectFree (hi8 (a + 1#16)) = true := by rwa [hi8_vector_succ ha]
  rw [memRead2_plain a s hlo hhi, toNat_cat]
  exact ⟨by omega, rfl⟩

end Sys2Proof.Machine
end

section
/-! PROOFS. The opcode bytes without a row (30_encoding.md R116) and the step that fetches one (60_exceptions.md
R300): O3. -/
namespace Sys2Proof.Machine

/-- The list of R116 is the complement of `OPTABLE`: checked at each of the 256 opcode bytes. -/
theorem mem_illegalOpcodes_iff (b0 : Byte) : b0 ∈ illegalOpcodes ↔ opTable b0 = none := by
  have hall : ∀ b : Byte, b ∈ illegalOpcodes ↔ (opTable b).isNone = true := by decide +kernel
  rw [hall b0, Option.isNone_iff_eq_none]

/-- `decode` rejects three bytes by the name of the first exactly when the first has no row (R102). -/
theorem decode_three_eq_illegalOpcode_iff (b0 b1 b2 : Byte) :
    decode [b0, b1, b2] = .error (.illegalOpcode b0) ↔ opTable b0 = none :=
  ⟨fun h => (decode_three_error h).1, decode_illegal [b1, b2]⟩

/-- What `step` does when the first byte fetched has no row: it raises `IllegalOpcode` on the fetched state (R300). -/
theorem step_of_opTable_none {s : State} (hs : s.halted = false) (h : opTable (fetch s).1.1 = none) :
    step s = .next (raiseIllegalOpcode (fetch s).2) := by
  simp [step, hs, decode_illegal _ h]

/-- Settles O3: the list is the complement of the table, `decode` and `step` follow the table, and a fetch from
side-effect-free pages is `Peek`s that leave the state as it is. -/
theorem illegalOpcodesHalt : Obligations.IllegalOpcodesHalt := by
  have hstep : ∀ s : State, s.halted = false → (fetch s).1.1 ∈ illegalOpcodes →
      step s = .next { (fetch s).2 with halted := true } :=
    fun s hs hmem => step_of_opTable_none hs ((mem_illegalOpcodes_iff _).mp hmem)
  refine ⟨by decide +kernel, fun b0 b1 b2 => ?_, hstep, fun s hs hplain hmem => ?_⟩
  · rw [mem_illegalOpcodes_iff, decode_three_eq_illegalOpcode_iff]
  · have hfetch := fetch_plain s hplain.page0 hplain.page1 hplain.page2
    have hnext := hstep s hs
    rw [hfetch] at hnext
    exact hnext hmem

end Sys2Proof.Machine
end

section
/-! PROOFS. The page-cross flag and operand access (40_dispatch_addressing.md R145, R146): O14 and O15. -/
namespace Sys2Proof.Machine

/-! The page-cross flag. -/

theorem carriesPage_iff_carry (base : Addr) (index : Byte) :
    carriesPage base index = true ↔ 0xFF < (lo8 base).toNat + index.toNat := by
  rw [carriesPage, decide_eq_true_iff]

/-- A carry out of the low byte is a change of the high byte, also where the sum wraps at the top: the index is less
than a page, so the high byte never comes round to itself. -/
theorem carriesPage_iff_hi8_ne (base : Addr) (index : Byte) :
    carriesPage base index = true ↔ hi8 base ≠ hi8 (base + zext index) := by
  have hsum : (base + zext index).toNat = (base.toNat + index.toNat) % 65536 := by
    rw [BitVec.toNat_add, zext, BitVec.toNat_setWidth_of_le (by decide)]
  rw [carriesPage_iff_carry, ne_eq, ← BitVec.toNat_inj, toNat_hi8, toNat_hi8, toNat_lo8, hsum]
  have hbase := base.isLt
  have hindex := index.isLt
  omega

/-- The low byte of a zero-page pointer is the byte at its first address (R144). -/
theorem lo8_zpPointer (z : Byte) (s : State) : lo8 (zpPointer z s) = zpRead z s := lo8_cat _ _

/-- Settles O14: each indexed mode's flag is `carriesPage` of its base and index. -/
theorem pageCrossIsLowByteCarry : Obligations.PageCrossIsLowByteCarry := by
  refine ⟨fun s w => ?_, fun s z => ?_⟩
  · exact ⟨carriesPage_iff_carry w s.x, carriesPage_iff_hi8_ne w s.x, carriesPage_iff_carry w s.y,
      carriesPage_iff_hi8_ne w s.y, rfl⟩
  · have hcarry := carriesPage_iff_carry (zpPointer z s) s.y
    rw [lo8_zpPointer] at hcarry
    exact ⟨hcarry, carriesPage_iff_hi8_ne (zpPointer z s) s.y, rfl, rfl, rfl, rfl, rfl⟩

/-! Operand access. -/

theorem lo8_zext (z : Byte) : lo8 (zext z) = z :=
  BitVec.setWidth_setWidth_of_le z (by decide)

/-- The zero-page modes read by the fast path and change nothing (R146). -/
theorem readMem_of_fast (o : MemOperand) (s : State) (h : o.fast = true) :
    readMem o s = (zpRead (lo8 (o.ea s)) s, s) := if_pos h

/-- The other modes make one bus read at the effective address (R146). -/
theorem readMem_of_not_fast (o : MemOperand) (s : State) (h : o.fast = false) :
    readMem o s = memRead (o.ea s) s := if_neg (by simp [h])

/-- A zero-page operand whose effective address is `z` is read at `z`. -/
theorem readMem_of_ea_zext (o : MemOperand) (s : State) {z : Byte} (h : o.fast = true) (hea : o.ea s = zext z) :
    readMem o s = (zpRead z s, s) := by
  rw [readMem_of_fast o s h, hea, lo8_zext]

/-- Settles O15: the modes split by `MemOperand.fast`, and at a side-effect-free page both accesses are `Peek`. -/
theorem operandAccess : Obligations.OperandAccess := by
  intro s
  exact ⟨fun _ => rfl, fun z => readMem_of_ea_zext (.zp z) s rfl rfl, fun z => readMem_of_ea_zext (.zpx z) s rfl rfl,
    fun z => readMem_of_ea_zext (.zpy z) s rfl rfl, fun o => readMem_of_not_fast o s, fun o => readMem_plain o s⟩

end Sys2Proof.Machine
end

section
/-! PROOFS. The dispatch of a step, its totality, and the halted core (40_dispatch_addressing.md R130, R151, R152;
60_exceptions.md R334): O5, O8 and O6. -/
namespace Sys2Proof.Machine

/-! What `step` answers, case by case; the illegal opcode's case is `step_of_opTable_none`. -/

/-- While halted the core has no step (R152). -/
theorem step_of_halted {s : State} (hs : s.halted = true) : step s = .fault .halted := if_pos hs

theorem step_of_decode {s : State} {i : Instr} {rest : List Byte} (hs : s.halted = false)
    (h : decode [(fetch s).1.1, (fetch s).1.2.1, (fetch s).1.2.2] = .ok (i, rest)) : step s = exec i (fetch s).2 := by
  simp [step, hs, h]

/-- The fetch is three bus reads, each on the state the one before leaves (R66, R67). -/
theorem fetch_eq_memReads (s : State) :
    fetch s =
      let r0 := memRead s.pc s
      let r1 := memRead (s.pc + 1#16) r0.2
      let r2 := memRead (s.pc + 2#16) r1.2
      ((r0.1, r1.1, r2.1), r2.2) := by
  simp only [fetch, fetchByte_eq_memRead]

/-- Settles O5: the step is the decoded instruction's arm, and a fetch from side-effect-free pages is three `Peek`s. -/
theorem stepRunsDecodedInstruction : Obligations.StepRunsDecodedInstruction := by
  refine ⟨fun s i rest hs hdec => step_of_decode hs hdec, fun s i rest hs hplain hdec => ?_, fun s => ?_⟩
  · have hfetch := fetch_plain s hplain.page0 hplain.page1 hplain.page2
    have hstep := step_of_decode (s := s) (i := i) (rest := rest) hs
    rw [hfetch] at hstep
    exact hstep hdec
  · exact ⟨_, _, _, rfl, rfl, rfl, fetch_eq_memReads s⟩

theorem exec_total (i : Instr) (s : State) : ∃ t, exec i s = .next t := by
  obtain ⟨t, ht, -⟩ := exec_does i s
  exact ⟨t, ht⟩

theorem step_total {s : State} (hs : s.halted = false) : ∃ t, step s = .next t := by
  cases hdec : decode [(fetch s).1.1, (fetch s).1.2.1, (fetch s).1.2.2] with
  | ok r =>
    rw [step_of_decode hs hdec]
    exact exec_total r.1 (fetch s).2
  | error e => exact ⟨_, step_of_opTable_none hs (decode_three_error hdec).1⟩

/-- Settles O8: three bytes decode, or their first is an illegal opcode, and either way there is a next state. -/
theorem stepIsTotal : Obligations.StepIsTotal :=
  ⟨exec_total, fun _ => step_total⟩

/-! The halted core. -/

theorem irq_of_halted {s : State} (hs : s.halted = true) : irq s = s := by
  simp [irq, hs]

theorem schedulerStep_of_halted {s : State} (hs : s.halted = true) : schedulerStep s = .next s := if_pos hs

@[simp] theorem resetCore_halted (s : State) : (resetCore s).halted = false := rfl

/-- From a halted core every move but `Reset()` reaches at most the platform and the interface record (R152). -/
theorem move_of_halted {m : Move} {s t : State} (hs : s.halted = true) (hm : m ≠ .reset) (h : move m s = .next t) :
    t = { s with platform := t.platform, iface := t.iface } := by
  cases m with
  | schedulerStep =>
    cases (schedulerStep_of_halted hs).symm.trans h
    rfl
  | videoStep ppu req =>
    simp only [move] at h
    split at h <;> cases h
    rfl
  | mapperIrq irqAt =>
    have hirq : ∀ ifc : Iface, irq (s.setIface ifc) = s.setIface ifc := fun _ => irq_of_halted hs
    simp only [move, hirq] at h
    split at h <;> cases h
    rfl
  | repoint page target =>
    simp only [move] at h
    split at h <;> cases h
    rfl
  | platformChange c =>
    cases h
    rfl
  | reset => exact absurd rfl hm

/-- A run is faulted at the move that leaves the core halted, whatever follows it (R334). -/
theorem runMoves_of_halting_move {before : List Move} {m : Move} {s u t : State} (hrun : runMoves before s = .next u)
    (hmove : move m u = .next t) (ht : t.halted = true) (after : List Move) :
    runMoves (before ++ m :: after) s = .fault .halted := by
  rw [runMoves_append hrun]
  simp [runMoves, hmove, ht]

theorem not_safeRun_of_fault {ms : List Move} {s : State} {f : Fault} (h : runMoves ms s = .fault f) :
    ¬ SafeRun ms s := by
  rintro ⟨t, ht, -⟩
  cases h.symm.trans ht

/-- A run that completes ends in a core that is not halted: the last move of it, if it has one, did not halt it. -/
theorem runMoves_not_halted {ms : List Move} {s t : State} (hs : s.halted = false) (h : runMoves ms s = .next t) :
    t.halted = false := by
  induction ms generalizing s with
  | nil =>
    cases h
    exact hs
  | cons m ms ih =>
    obtain ⟨u, -, hu, hrest⟩ := runMoves_cons h
    exact ih hu hrest

/-- Settles O6: the operations of a halted core by their first test, the runs by induction over their moves. -/
theorem haltedCoreOnlyLeavesByReset : Obligations.HaltedCoreOnlyLeavesByReset := by
  refine ⟨fun s hs => ?_, fun m s t => move_of_halted, fun before after m s u t hrun hmove ht => ?_,
    fun ms s t => runMoves_not_halted⟩
  · exact ⟨step_of_halted hs, irq_of_halted hs, schedulerStep_of_halted hs, resetCore_halted s⟩
  · have hfault := runMoves_of_halting_move hrun hmove ht after
    exact ⟨hfault, not_safeRun_of_fault hfault⟩

end Sys2Proof.Machine
end

section
/-! PROOFS. Loads and register transfers (41_load_store_transfer.md R170 to R172, R177 to R181), from what every class
read and every class implied instruction answers: O16 and O19. -/
namespace Sys2Proof.Machine

/-! Class read. -/

/-- No operation of class read writes PC or `clocks`. -/
theorem ReadOf.keeps_pc_clocks {m : Mnemonic} {op : Byte → State → State} (hop : ReadOf m op) (b : Byte) (s : State) :
    (op b s).pc = s.pc ∧ (op b s).clocks = s.clocks := by
  cases hop <;> exact ⟨rfl, rfl⟩

/-- Instruction `i` is class read on operand `o` with operation `op`, and its row has the length and the cycles that
R101 and R366 tabulate for that operand. -/
structure RunsRead (i : Instr) (o : ReadOperand) (op : Byte → State → State) : Prop where
  op_of_mnemonic : ReadOf i.row.mnemonic op
  exec_eq_runRead : ∀ s, exec i s = .next (runRead i.row o op s)
  row_length : i.row.length = readLength o
  row_cycles : ∀ s, i.row.cycles + penalty i.row (o.cross s) = readCycles o s

/-- A class read instruction reads its operand, runs its operation, and advances PC and `clocks` by the tabulated length
and cost. -/
theorem RunsRead.exec_eq {i : Instr} {o : ReadOperand} {op : Byte → State → State} (h : RunsRead i o op) (s : State) :
    exec i s = .next { op (readOperand o s).1 (readOperand o s).2 with
      pc := s.pc + BitVec.ofNat 16 (readLength o), clocks := s.clocks + readCycles o s } := by
  rw [h.exec_eq_runRead, runRead_eq _ _ _ _ h.op_of_mnemonic.keeps_pc_clocks, h.row_length, Nat.add_assoc, h.row_cycles]

/-! What holds of every form of an instruction passes along an implication between predicates on one form. -/

theorem EightReadForms.imp {imm zp zpx izx izy : Byte → Instr} {abs abx aby : Addr → Instr}
    {P Q : Instr → ReadOperand → Prop} (hP : EightReadForms imm zp zpx abs abx aby izx izy P)
    (h : ∀ i o, P i o → Q i o) : EightReadForms imm zp zpx abs abx aby izx izy Q := by
  obtain ⟨hImm, hZp, hZpx, hAbs, hAbx, hAby, hIzx, hIzy⟩ := hP
  exact ⟨fun v => h _ _ (hImm v), fun z => h _ _ (hZp z), fun z => h _ _ (hZpx z), fun w => h _ _ (hAbs w),
    fun w => h _ _ (hAbx w), fun w => h _ _ (hAby w), fun z => h _ _ (hIzx z), fun z => h _ _ (hIzy z)⟩

theorem LdxForms.imp {P Q : Instr → ReadOperand → Prop} (hP : LdxForms P) (h : ∀ i o, P i o → Q i o) : LdxForms Q := by
  obtain ⟨hImm, hZp, hZpy, hAbs, hAby⟩ := hP
  exact ⟨fun v => h _ _ (hImm v), fun z => h _ _ (hZp z), fun z => h _ _ (hZpy z), fun w => h _ _ (hAbs w),
    fun w => h _ _ (hAby w)⟩

theorem LdyForms.imp {P Q : Instr → ReadOperand → Prop} (hP : LdyForms P) (h : ∀ i o, P i o → Q i o) : LdyForms Q := by
  obtain ⟨hImm, hZp, hZpx, hAbs, hAbx⟩ := hP
  exact ⟨fun v => h _ _ (hImm v), fun z => h _ _ (hZp z), fun z => h _ _ (hZpx z), fun w => h _ _ (hAbs w),
    fun w => h _ _ (hAbx w)⟩

/-! The loads. -/

theorem lda_runsRead :
    EightReadForms .ldaImm .ldaZp .ldaZpx .ldaAbs .ldaAbx .ldaAby .ldaIzx .ldaIzy fun i o => RunsRead i o loadA := by
  refine ⟨?_, ?_, ?_, ?_, ?_, ?_, ?_, ?_⟩ <;> exact fun _ => ⟨.lda, fun _ => rfl, rfl, fun _ => rfl⟩

theorem ldx_runsRead : LdxForms fun i o => RunsRead i o loadX := by
  refine ⟨?_, ?_, ?_, ?_, ?_⟩ <;> exact fun _ => ⟨.ldx, fun _ => rfl, rfl, fun _ => rfl⟩

theorem ldy_runsRead : LdyForms fun i o => RunsRead i o loadY := by
  refine ⟨?_, ?_, ?_, ?_, ?_⟩ <;> exact fun _ => ⟨.ldy, fun _ => rfl, rfl, fun _ => rfl⟩

/-- Settles O16: every form is class read, and its operation writes the register and the two lazy flag bytes. -/
theorem loadsWriteRegisterZeroNegative : Obligations.LoadsWriteRegisterZeroNegative :=
  ⟨fun s => lda_runsRead.imp fun _ _ h => ⟨_, h.exec_eq s, rfl, rfl, rfl⟩,
    fun s => ldx_runsRead.imp fun _ _ h => ⟨_, h.exec_eq s, rfl, rfl, rfl⟩,
    fun s => ldy_runsRead.imp fun _ _ h => ⟨_, h.exec_eq s, rfl, rfl, rfl⟩⟩

/-! Class implied. -/

/-- Class implied as one update: the operation's effect, then PC and `clocks` (R130, R131). -/
theorem runImplied_eq (r : OpRow) (op : State → State) (s : State) (hpc : (op s).pc = s.pc)
    (hclocks : (op s).clocks = s.clocks) :
    runImplied r op s = { op s with pc := s.pc + BitVec.ofNat 16 r.length, clocks := s.clocks + r.cycles } := by
  ext <;> simp [runImplied, hpc, hclocks]

/-- An instruction that runs a class implied operation answers that operation's state with PC and `clocks` advanced. -/
theorem exec_eq_of_runImplied {i : Instr} {op : State → State} {s : State}
    (h : exec i s = .next (runImplied i.row op s)) (hpc : (op s).pc = s.pc) (hclocks : (op s).clocks = s.clocks) :
    exec i s = .next { op s with
      pc := s.pc + BitVec.ofNat 16 i.row.length, clocks := s.clocks + i.row.cycles } := by
  rw [h, runImplied_eq _ _ _ hpc hclocks]

/-- Settles O19: each transfer is class implied, and its operation is the load of one register from another. -/
theorem transfersWriteZeroNegative : Obligations.TransfersWriteZeroNegative := by
  intro s
  refine ⟨⟨_, exec_eq_of_runImplied (op := transferAX) rfl rfl rfl, ?_⟩,
    ⟨_, exec_eq_of_runImplied (op := transferAY) rfl rfl rfl, ?_⟩,
    ⟨_, exec_eq_of_runImplied (op := transferXA) rfl rfl rfl, ?_⟩,
    ⟨_, exec_eq_of_runImplied (op := transferYA) rfl rfl rfl, ?_⟩,
    ⟨_, exec_eq_of_runImplied (op := transferSX) rfl rfl rfl, ?_⟩⟩ <;>
  exact ⟨rfl, rfl, rfl⟩

end Sys2Proof.Machine
end

section
/-! PROOFS. The arithmetic of bytes behind the flag engine (42_arith_logic.md R202, R203, R205, R209, R220 to R223), and
the overflow law: O22. -/
namespace Sys2Proof.Machine

/-! Bit 7 as the sign. -/

theorem getLsbD_seven (b : Byte) : b.getLsbD 7 = decide (128 ≤ b.toNat) := BitVec.msb_eq_decide b

/-- A byte masked with `0x80` is nonzero exactly when bit 7 is set. -/
theorem and_0x80_bne_zero (b : Byte) : ((b &&& 0x80#8) != 0x00#8) = b.getLsbD 7 := by
  rw [show 0x80#8 = BitVec.twoPow 8 7 from rfl, BitVec.and_twoPow]
  cases b.getLsbD 7 <;> rfl

/-- A byte read in two's complement (R203). -/
theorem toInt_eq_toNat_sub (b : Byte) : b.toInt = (b.toNat : Int) - if 128 ≤ b.toNat then 256 else 0 := by
  rw [BitVec.toInt_eq_toNat_cond]
  split_ifs <;> omega

/-! The sum of `AddCore`. -/

theorem toNat_addResult (a m : Byte) (c : Bool) : (addResult a m c).toNat = (a.toNat + m.toNat + c.toNat) % 256 :=
  BitVec.toNat_ofNat _ _

/-- Bit 8 of the sum of two bytes and a carry is what the result drops (R202). -/
theorem addCarry_eq (a m : Byte) (c : Bool) : addCarry a m c = decide (255 < a.toNat + m.toNat + c.toNat) := by
  rw [addCarry, addSum, Nat.testBit_eq_decide_div_mod_eq, decide_eq_decide]
  have ha := a.isLt
  have hm := m.isLt
  have hc := c.toNat_lt
  omega

/-- The mask formula of R202 is the sign rule of R203. -/
theorem addOverflow_eq (a m r : Byte) :
    addOverflow a m r = ((a.getLsbD 7 == m.getLsbD 7) && (r.getLsbD 7 != a.getLsbD 7)) := by
  rw [addOverflow, and_0x80_bne_zero, BitVec.getLsbD_and, BitVec.getLsbD_xor, BitVec.getLsbD_xor]
  cases a.getLsbD 7 <;> cases m.getLsbD 7 <;> cases r.getLsbD 7 <;> rfl

theorem addOverflow_iff (a m r : Byte) :
    addOverflow a m r = true ↔ a.getLsbD 7 = m.getLsbD 7 ∧ r.getLsbD 7 ≠ a.getLsbD 7 := by
  rw [addOverflow_eq, Bool.and_eq_true, beq_iff_eq, bne_iff_ne]

/-- For the truncated sum the sign rule says that the signed sum leaves the range of a byte (R203). -/
theorem addOverflow_addResult_iff (a m : Byte) (c : Bool) : addOverflow a m (addResult a m c) = true ↔
    a.toInt + m.toInt + (c.toNat : Int) < -128 ∨ 127 < a.toInt + m.toInt + (c.toNat : Int) := by
  rw [addOverflow_iff, getLsbD_seven, getLsbD_seven, getLsbD_seven, toNat_addResult, ne_eq, decide_eq_decide,
    decide_eq_decide, toInt_eq_toNat_sub, toInt_eq_toNat_sub]
  have ha := a.isLt
  have hm := m.isLt
  have hc := c.toNat_lt
  split_ifs <;> omega

/-- Where only the Overflow bit of `P` was written, it holds what `vFlag` now reads (R28). -/
theorem p_eq_setBit_vFlag {t : State} {p : Byte} {v : Bool} (h : t.p = setBit p bitV v) :
    t.p = setBit p bitV t.vFlag := by
  rw [State.vFlag, h, getLsbD_setBit _ _ _ _ (by decide), if_pos rfl]

/-- `AddCore` leaves its Overflow in `P.V` (R202). -/
theorem addCore_vFlag (m : Byte) (s : State) :
    (addCore m s).vFlag = addOverflow s.a m (addResult s.a m s.cFlag) := State.vFlag_setV _ _

/-- Settles O22, from the sign rule, its reading as signed overflow, and what `AddCore` leaves in `P.V`. -/
theorem overflowIsSignedOverflow : Obligations.OverflowIsSignedOverflow :=
  ⟨addOverflow_iff, addOverflow_addResult_iff, fun m s => ⟨addCore_vFlag m s, addCore_vFlag (m ^^^ 0xFF#8) s⟩⟩

/-! The complemented addend of SBC. -/

theorem xor_0xFF (m : Byte) : m ^^^ 0xFF#8 = ~~~m := BitVec.xor_allOnes

/-- Adding the complement subtracts the operand and the borrow (R205). -/
theorem toNat_addResult_not (a m : Byte) (c : Bool) :
    ((addResult a (~~~m) c).toNat : Int) = ((a.toNat : Int) - (m.toNat : Int) - (1 - (c.toNat : Int))) % 256 := by
  rw [toNat_addResult, BitVec.toNat_not]
  have hm := m.isLt
  omega

/-- The carry out of the complemented addition is the absence of a borrow (R205). -/
theorem addCarry_not (a m : Byte) (c : Bool) : addCarry a (~~~m) c = decide (m.toNat + (1 - c.toNat) ≤ a.toNat) := by
  rw [addCarry_eq, BitVec.toNat_not, decide_eq_decide]
  have hm := m.isLt
  have hc := c.toNat_lt
  omega

/-- Against the complement the sign rule asks that the operands' signs differ (R205). -/
theorem addOverflow_not (a m r : Byte) :
    addOverflow a (~~~m) r = ((a.getLsbD 7 != m.getLsbD 7) && (r.getLsbD 7 != a.getLsbD 7)) := by
  rw [addOverflow_eq, BitVec.getLsbD_not]
  cases a.getLsbD 7 <;> cases m.getLsbD 7 <;> rfl

/-! The difference of a compare. -/

/-- The difference is zero exactly when the bytes are equal (R209). -/
theorem sub_beq_zero (r m : Byte) : (r - m == 0x00#8) = decide (r = m) := by
  rw [beq_eq_decide, decide_eq_decide]
  exact sub_eq_zero

/-! The results of the shifts and rotates. -/

theorem toNat_shiftLeft_one (v : Byte) : (v <<< 1).toNat = 2 * v.toNat % 256 := by
  rw [BitVec.toNat_shiftLeft, Nat.shiftLeft_eq, Nat.mul_comm]

theorem toNat_shiftRight_one (v : Byte) : (v >>> 1).toNat = v.toNat / 2 := by
  rw [BitVec.toNat_ushiftRight, Nat.shiftRight_eq_div_pow]

/-- The Carry that enters bit 0 adds 1: the shifted value is even (R222). -/
theorem toNat_rolResult (v : Byte) (c : Bool) : (rolResult v c).toNat = (2 * v.toNat + c.toNat) % 256 := by
  have heven : 2 * v.toNat % 256 = 2 ^ 1 * (v.toNat % 128) := by omega
  have hbit : (if c then 0x01#8 else 0x00#8).toNat = c.toNat := by cases c <;> rfl
  rw [rolResult, BitVec.toNat_or, toNat_shiftLeft_one, heven, hbit, ← Nat.two_pow_add_eq_or_of_lt c.toNat_lt]
  have hc := c.toNat_lt
  omega

/-- The Carry that enters bit 7 adds 128: the shifted value is below it (R223). -/
theorem toNat_rorResult (v : Byte) (c : Bool) : (rorResult v c).toNat = v.toNat / 2 + 128 * c.toNat := by
  have hlow : v.toNat / 2 < 2 ^ 7 := by have := v.isLt; omega
  have hbit : (if c then 0x80#8 else 0x00#8).toNat = 2 ^ 7 * c.toNat := by cases c <;> rfl
  rw [rorResult, BitVec.toNat_or, toNat_shiftRight_one, hbit, Nat.or_comm, ← Nat.two_pow_add_eq_or_of_lt hlow]
  omega

end Sys2Proof.Machine
end

section
/-! PROOFS. The class read instructions of 42_arith_logic.md (R202 to R213), from what every class read instruction
answers: O20, O21, O23, O24 and O25. -/
namespace Sys2Proof.Machine

theorem ThreeReadForms.imp {imm zp : Byte → Instr} {abs : Addr → Instr} {P Q : Instr → ReadOperand → Prop}
    (hP : ThreeReadForms imm zp abs P) (h : ∀ i o, P i o → Q i o) : ThreeReadForms imm zp abs Q := by
  obtain ⟨hImm, hZp, hAbs⟩ := hP
  exact ⟨fun v => h _ _ (hImm v), fun z => h _ _ (hZp z), fun w => h _ _ (hAbs w)⟩

theorem BitForms.imp {P Q : Instr → ReadOperand → Prop} (hP : BitForms P) (h : ∀ i o, P i o → Q i o) : BitForms Q := by
  obtain ⟨hZp, hAbs⟩ := hP
  exact ⟨fun z => h _ _ (hZp z), fun w => h _ _ (hAbs w)⟩

/-! What a class read instruction answers, by the shared operation its own one is: `AddCore`, a load of A, `Compare`. -/

section
variable {i : Instr} {o : ReadOperand} {op : Byte → State → State}

/-- A class read instruction that runs `AddCore` on an addend writes A, the four flags, and nothing else but PC and
`clocks` (R202). -/
theorem RunsRead.exec_addCore (h : RunsRead i o op) (s : State) {m : Byte}
    (hop : op (readOperand o s).1 (readOperand o s).2 = addCore m (readOperand o s).2) :
    ∃ t, exec i s = .next t ∧
      t = { (readOperand o s).2 with
            a := t.a, zr := t.zr, nr := t.nr, cr := t.cr, p := setBit s.p bitV t.vFlag,
            pc := s.pc + BitVec.ofNat 16 (readLength o), clocks := s.clocks + readCycles o s } ∧
      t.a = addResult s.a m s.cFlag ∧ t.cFlag = addCarry s.a m s.cFlag ∧ t.vFlag = addOverflow s.a m t.a ∧
      t.zFlag = (t.a == 0x00#8) ∧ t.nFlag = t.a.getLsbD 7 := by
  have ha : (addCore m (readOperand o s).2).a = addResult s.a m s.cFlag := by
    rw [addCore_a, readOperand_a, readOperand_cr, State.cFlag]
  have hc : (addCore m (readOperand o s).2).cFlag = addCarry s.a m s.cFlag := by
    rw [State.cFlag, addCore_cr, readOperand_a, readOperand_cr, State.cFlag]
  refine ⟨_, h.exec_eq s, ?_⟩
  rw [hop]
  refine ⟨?_, ha, hc, ?_, rfl, rfl⟩
  · ext1
    case p =>
      rw [← readOperand_p o s]
      exact p_eq_setBit_vFlag (addCore_p m _)
    all_goals rfl
  · rw [← readOperand_a o s]
    exact addCore_vFlag m _

/-- A class read instruction that loads A with a value writes A, Zero and Negative, and nothing else but PC and `clocks`
(R206 to R208). -/
theorem RunsRead.exec_loadA (h : RunsRead i o op) (s : State) {v : Byte}
    (hop : op (readOperand o s).1 (readOperand o s).2 = loadA v (readOperand o s).2) :
    ∃ t, exec i s = .next t ∧
      t = { (readOperand o s).2 with
            a := v, zr := t.zr, nr := t.nr,
            pc := s.pc + BitVec.ofNat 16 (readLength o), clocks := s.clocks + readCycles o s } ∧
      t.zFlag = (t.a == 0x00#8) ∧ t.nFlag = t.a.getLsbD 7 := by
  refine ⟨_, h.exec_eq s, ?_⟩
  rw [hop]
  exact ⟨rfl, rfl, rfl⟩

/-- A class read instruction that compares a register with its operand writes Carry, Zero and Negative, and nothing else
but PC and `clocks` (R209). -/
theorem RunsRead.exec_compareReg (h : RunsRead i o op) (s : State) {r : Byte}
    (hop : op (readOperand o s).1 (readOperand o s).2 = compareReg r (readOperand o s).1 (readOperand o s).2) :
    ∃ t, exec i s = .next t ∧
      t = { (readOperand o s).2 with
            zr := t.zr, nr := t.nr, cr := t.cr,
            pc := s.pc + BitVec.ofNat 16 (readLength o), clocks := s.clocks + readCycles o s } ∧
      t.cFlag = decide ((readOperand o s).1.toNat ≤ r.toNat) ∧
      t.zFlag = decide (r = (readOperand o s).1) ∧ t.nFlag = (r - (readOperand o s).1).getLsbD 7 := by
  refine ⟨_, h.exec_eq s, ?_⟩
  rw [hop]
  exact ⟨rfl, rfl, sub_beq_zero _ _, rfl⟩

end

/-! The forms. -/

theorem adc_runsRead :
    EightReadForms .adcImm .adcZp .adcZpx .adcAbs .adcAbx .adcAby .adcIzx .adcIzy fun i o => RunsRead i o adcOp := by
  refine ⟨?_, ?_, ?_, ?_, ?_, ?_, ?_, ?_⟩ <;> exact fun _ => ⟨.adc, fun _ => rfl, rfl, fun _ => rfl⟩

theorem sbc_runsRead :
    EightReadForms .sbcImm .sbcZp .sbcZpx .sbcAbs .sbcAbx .sbcAby .sbcIzx .sbcIzy fun i o => RunsRead i o sbcOp := by
  refine ⟨?_, ?_, ?_, ?_, ?_, ?_, ?_, ?_⟩ <;> exact fun _ => ⟨.sbc, fun _ => rfl, rfl, fun _ => rfl⟩

theorem and_runsRead :
    EightReadForms .andImm .andZp .andZpx .andAbs .andAbx .andAby .andIzx .andIzy fun i o => RunsRead i o andOp := by
  refine ⟨?_, ?_, ?_, ?_, ?_, ?_, ?_, ?_⟩ <;> exact fun _ => ⟨.and, fun _ => rfl, rfl, fun _ => rfl⟩

theorem ora_runsRead :
    EightReadForms .oraImm .oraZp .oraZpx .oraAbs .oraAbx .oraAby .oraIzx .oraIzy fun i o => RunsRead i o oraOp := by
  refine ⟨?_, ?_, ?_, ?_, ?_, ?_, ?_, ?_⟩ <;> exact fun _ => ⟨.ora, fun _ => rfl, rfl, fun _ => rfl⟩

theorem eor_runsRead :
    EightReadForms .eorImm .eorZp .eorZpx .eorAbs .eorAbx .eorAby .eorIzx .eorIzy fun i o => RunsRead i o eorOp := by
  refine ⟨?_, ?_, ?_, ?_, ?_, ?_, ?_, ?_⟩ <;> exact fun _ => ⟨.eor, fun _ => rfl, rfl, fun _ => rfl⟩

theorem cmp_runsRead :
    EightReadForms .cmpImm .cmpZp .cmpZpx .cmpAbs .cmpAbx .cmpAby .cmpIzx .cmpIzy fun i o => RunsRead i o cmpOp := by
  refine ⟨?_, ?_, ?_, ?_, ?_, ?_, ?_, ?_⟩ <;> exact fun _ => ⟨.cmp, fun _ => rfl, rfl, fun _ => rfl⟩

theorem cpx_runsRead : ThreeReadForms .cpxImm .cpxZp .cpxAbs fun i o => RunsRead i o cpxOp := by
  refine ⟨?_, ?_, ?_⟩ <;> exact fun _ => ⟨.cpx, fun _ => rfl, rfl, fun _ => rfl⟩

theorem cpy_runsRead : ThreeReadForms .cpyImm .cpyZp .cpyAbs fun i o => RunsRead i o cpyOp := by
  refine ⟨?_, ?_, ?_⟩ <;> exact fun _ => ⟨.cpy, fun _ => rfl, rfl, fun _ => rfl⟩

theorem bit_runsRead : BitForms fun i o => RunsRead i o bitTest := by
  refine ⟨?_, ?_⟩ <;> exact fun _ => ⟨.bit, fun _ => rfl, rfl, fun _ => rfl⟩

/-! The obligations. -/

/-- Settles O20: every form is class read and its operation is `AddCore` of the operand. -/
theorem adcAddsWithCarry : Obligations.AdcAddsWithCarry := by
  intro s
  refine adc_runsRead.imp fun i o h => ?_
  obtain ⟨t, hexec, hframe, ha, hc, hv, hz, hn⟩ := h.exec_addCore s rfl
  exact ⟨t, hexec, hframe, by rw [ha, toNat_addResult], by rw [hc, addCarry_eq], by rw [hv, addOverflow_eq], hz, hn⟩

/-- Settles O21: every form is class read and its operation is `AddCore` of the operand's complement. -/
theorem sbcSubtractsWithBorrow : Obligations.SbcSubtractsWithBorrow := by
  intro s
  refine sbc_runsRead.imp fun i o h => ?_
  obtain ⟨t, hexec, hframe, ha, hc, hv, hz, hn⟩ :=
    h.exec_addCore s (m := ~~~(readOperand o s).1) (by rw [sbcOp, xor_0xFF])
  exact ⟨t, hexec, hframe, by rw [ha, toNat_addResult_not], by rw [hc, addCarry_not], by rw [hv, addOverflow_not], hz, hn⟩

/-- Settles O23: every form is class read and its operation loads A with the bitwise result. -/
theorem logicWritesAccumulatorZeroNegative : Obligations.LogicWritesAccumulatorZeroNegative :=
  ⟨fun s => and_runsRead.imp fun _ _ h => h.exec_loadA s (by rw [andOp, readOperand_a]),
    fun s => ora_runsRead.imp fun _ _ h => h.exec_loadA s (by rw [oraOp, readOperand_a]),
    fun s => eor_runsRead.imp fun _ _ h => h.exec_loadA s (by rw [eorOp, readOperand_a])⟩

/-- Settles O24: every form is class read and its operation is `Compare` of the register with the operand. -/
theorem compareWritesCarryZeroNegative : Obligations.CompareWritesCarryZeroNegative :=
  ⟨fun s => cmp_runsRead.imp fun _ _ h => h.exec_compareReg s (by rw [cmpOp, readOperand_a]),
    fun s => cpx_runsRead.imp fun _ _ h => h.exec_compareReg s (by rw [cpxOp, readOperand_x]),
    fun s => cpy_runsRead.imp fun _ _ h => h.exec_compareReg s (by rw [cpyOp, readOperand_y])⟩

@[simp] theorem bitTest_p (m : Byte) (s : State) : (bitTest m s).p = setBit s.p bitV (m.getLsbD 6) := rfl

/-- BIT leaves bit 6 of its operand in `P.V` (R213). -/
theorem bitTest_vFlag (m : Byte) (s : State) : (bitTest m s).vFlag = m.getLsbD 6 := State.vFlag_setV _ _

/-- BIT tests A against its operand (R213). -/
theorem bitTest_zFlag (m : Byte) (s : State) : (bitTest m s).zFlag = ((s.a &&& m) == 0x00#8) := rfl

/-- Settles O25: both forms are class read, and the flags are the ones `bitTest` writes; A and `P` are as before the
operand's read. -/
theorem bitTestCopiesOperandBits : Obligations.BitTestCopiesOperandBits := by
  intro s
  refine bit_runsRead.imp fun i o h => ⟨_, h.exec_eq s, ?_, ?_, rfl, bitTest_vFlag _ _⟩
  · ext1
    case p =>
      rw [← readOperand_p o s]
      exact p_eq_setBit_vFlag (bitTest_p _ _)
    all_goals rfl
  · rw [← readOperand_a o s]
    exact bitTest_zFlag _ _

end Sys2Proof.Machine
end

section
/-! PROOFS. The shifts and rotates (42_arith_logic.md R220 to R224), from what every class rmw instruction answers: O28. -/
namespace Sys2Proof.Machine

/-! Class rmw on memory. -/

theorem FourRmwForms.imp {zp zpx : Byte → Instr} {abs abx : Addr → Instr} {P Q : Instr → MemOperand → Nat → Prop}
    (hP : FourRmwForms zp zpx abs abx P) (h : ∀ i o cyc, P i o cyc → Q i o cyc) : FourRmwForms zp zpx abs abx Q := by
  obtain ⟨hZp, hZpx, hAbs, hAbx⟩ := hP
  exact ⟨fun z => h _ _ _ (hZp z), fun z => h _ _ _ (hZpx z), fun w => h _ _ _ (hAbs w), fun w => h _ _ _ (hAbx w)⟩

/-- No operation of class rmw writes PC or `clocks`. -/
theorem RmwOf.keeps_pc_clocks {m : Mnemonic} {op : Byte → State → Byte × State} (hop : RmwOf m op) (b : Byte)
    (s : State) : (op b s).2.pc = s.pc ∧ (op b s).2.clocks = s.clocks := by
  cases hop <;> exact ⟨rfl, rfl⟩

/-- Instruction `i` is class rmw on memory operand `o` with operation `op`, and its row has the length that R101
tabulates for that operand and `cyc` cycles. -/
structure RunsRmw (i : Instr) (o : MemOperand) (cyc : Nat) (op : Byte → State → Byte × State) : Prop where
  op_of_mnemonic : RmwOf i.row.mnemonic op
  exec_eq_runRmw : ∀ s, exec i s = .next (runRmw i.row o op s)
  row_length : i.row.length = memLength o
  row_cycles : i.row.cycles = cyc

/-- A class rmw instruction on memory reads its operand, runs its operation, writes the result back at the effective
address, and advances PC and `clocks` by the tabulated length and the fixed cost. -/
theorem RunsRmw.exec_eq {i : Instr} {o : MemOperand} {cyc : Nat} {op : Byte → State → Byte × State}
    (h : RunsRmw i o cyc op) (s : State) :
    exec i s = .next
      { writeAt o.fast (o.ea s) (op (readMem o s).1 (readMem o s).2).1 (op (readMem o s).1 (readMem o s).2).2 with
        pc := s.pc + BitVec.ofNat 16 (memLength o), clocks := s.clocks + cyc } := by
  obtain ⟨hpc, hclocks⟩ := h.op_of_mnemonic.keeps_pc_clocks (readMem o s).1 (readMem o s).2
  rw [h.exec_eq_runRmw, ← h.row_length, ← h.row_cycles]
  simp only [runRmw, finish, State.setPc, State.setClocks, writeAt_pc, writeAt_clocks, hpc, hclocks, readMem_pc,
    readMem_clocks, Nat.add_zero]

/-! A write looks at no lazy flag, so it may come before the flags are set. -/

theorem writeAt_setZN (fast : Bool) (a : Addr) (v b : Byte) (s : State) :
    writeAt fast a v (s.setZN b) = (writeAt fast a v s).setZN b := by
  cases fast <;> rfl

theorem writeAt_setCr (fast : Bool) (a : Addr) (v : Byte) (c : Bool) (s : State) :
    writeAt fast a v (s.setCr c) = (writeAt fast a v s).setCr c := by
  cases fast <;> rfl

/-! What a shift answers, from its result and its Carry on the operand. -/

/-- A class rmw operation that yields `b`, sets Carry to `c` and Zero and Negative from `b`, on memory. -/
theorem RunsRmw.shiftsMemory {i : Instr} {o : MemOperand} {cyc : Nat} {op : Byte → State → Byte × State} {s : State}
    (h : RunsRmw i o cyc op) {r : Byte → Nat} {c : Byte → Bool} {b : Byte} (hb : b.toNat = r (readMem o s).1)
    (hop : op (readMem o s).1 (readMem o s).2 = (b, ((readMem o s).2.setCr (c (readMem o s).1)).setZN b)) :
    ShiftsMemory i o cyc s r c := by
  refine ⟨_, b, h.exec_eq s, hb, ?_⟩
  rw [hop, writeAt_setZN, writeAt_setCr]
  exact ⟨rfl, rfl, rfl⟩

/-- The same on the accumulator, for one byte and 2 cycles. -/
theorem shiftsAccumulator_of_runAcc {i : Instr} {op : Byte → State → Byte × State} {s : State} {r : Nat} {c : Bool}
    {b : Byte} (hexec : exec i s = .next (runAcc i.row op s)) (hlen : i.row.length = 1) (hcyc : i.row.cycles = 2)
    (hb : b.toNat = r) (hop : op s.a s = (b, (s.setCr c).setZN b)) : ShiftsAccumulator i s r c := by
  refine ⟨_, hexec, ?_⟩
  rw [runAcc, hop, finish, hlen, hcyc]
  exact ⟨rfl, hb, rfl, rfl⟩

/-! The forms. -/

theorem asl_runsRmw : FourRmwForms .aslZp .aslZpx .aslAbs .aslAbx fun i o cyc => RunsRmw i o cyc aslOp := by
  refine ⟨?_, ?_, ?_, ?_⟩ <;> exact fun _ => ⟨.asl, fun _ => rfl, rfl, rfl⟩

theorem lsr_runsRmw : FourRmwForms .lsrZp .lsrZpx .lsrAbs .lsrAbx fun i o cyc => RunsRmw i o cyc lsrOp := by
  refine ⟨?_, ?_, ?_, ?_⟩ <;> exact fun _ => ⟨.lsr, fun _ => rfl, rfl, rfl⟩

theorem rol_runsRmw : FourRmwForms .rolZp .rolZpx .rolAbs .rolAbx fun i o cyc => RunsRmw i o cyc rolOp := by
  refine ⟨?_, ?_, ?_, ?_⟩ <;> exact fun _ => ⟨.rol, fun _ => rfl, rfl, rfl⟩

theorem ror_runsRmw : FourRmwForms .rorZp .rorZpx .rorAbs .rorAbx fun i o cyc => RunsRmw i o cyc rorOp := by
  refine ⟨?_, ?_, ?_, ?_⟩ <;> exact fun _ => ⟨.ror, fun _ => rfl, rfl, rfl⟩

/-- Settles O28: every form is class rmw, and the rotates take the Carry that the operand's read left as it was. -/
theorem shiftsAndRotates : Obligations.ShiftsAndRotates := by
  intro s
  have hcarry (o : MemOperand) : (readMem o s).2.cFlag = s.cFlag := readMem_cr o s
  exact ⟨shiftsAccumulator_of_runAcc rfl rfl rfl (toNat_shiftLeft_one s.a) rfl,
    shiftsAccumulator_of_runAcc rfl rfl rfl (toNat_shiftRight_one s.a) rfl,
    shiftsAccumulator_of_runAcc rfl rfl rfl (toNat_rolResult s.a s.cFlag) rfl,
    shiftsAccumulator_of_runAcc rfl rfl rfl (toNat_rorResult s.a s.cFlag) rfl,
    asl_runsRmw.imp fun _ _ _ h => h.shiftsMemory (toNat_shiftLeft_one _) rfl,
    lsr_runsRmw.imp fun _ _ _ h => h.shiftsMemory (toNat_shiftRight_one _) rfl,
    rol_runsRmw.imp fun _ o _ h => h.shiftsMemory (toNat_rolResult _ _) (by rw [rolOp, hcarry o]),
    ror_runsRmw.imp fun _ o _ h => h.shiftsMemory (toNat_rorResult _ _) (by rw [rorOp, hcarry o])⟩

end Sys2Proof.Machine
end

section
/-! PROOFS. Push, pop and the wrap of the stack pointer (43_flag_stack_ops.md R240 to R242): O31 and O32. -/
namespace Sys2Proof.Machine

/-! One push. -/

theorem push_locate (v : Byte) (s : State) (b : Addr) :
    (push v s).platform.locate b = s.platform.locate b := rfl

theorem peek_push_same (v : Byte) (s : State) : (push v s).platform.peek (stackAddr s.sp) = v :=
  s.platform.peek_poke_same _ v

theorem peek_push_other (v : Byte) (s : State) {b : Addr}
    (h : s.platform.locate b ≠ s.platform.locate (stackAddr s.sp)) :
    (push v s).platform.peek b = s.platform.peek b :=
  s.platform.peek_poke_other v h

/-- The storage of the stack page is 256 to 511, so a push leaves every byte outside it alone. -/
theorem peek_push_outside (v : Byte) (s : State) {b : Addr}
    (h : s.platform.locate b < 256 ∨ 512 ≤ s.platform.locate b) :
    (push v s).platform.peek b = s.platform.peek b := by
  apply peek_push_other
  rw [locate_stackAddr]
  omega

/-- Settles O31: a push is a store at S and a decrement, a pop an increment and a `Peek`. -/
theorem pushStoresThenDecrements : Obligations.PushStoresThenDecrements :=
  ⟨fun v s => ⟨rfl, peek_push_same v s, fun _ => peek_push_other v s⟩, fun _ => rfl, pop_push⟩

/-! Any number of pushes. -/

@[simp] theorem pushAll_nil (s : State) : pushAll [] s = s := rfl

@[simp] theorem pushAll_cons (v : Byte) (vs : List Byte) (s : State) :
    pushAll (v :: vs) s = pushAll vs (push v s) := rfl

theorem pushAll_append_singleton (vs : List Byte) (v : Byte) (s : State) :
    pushAll (vs ++ [v]) s = push v (pushAll vs s) := by
  induction vs generalizing s with
  | nil => rfl
  | cons w vs ih => exact ih (push w s)

/-- Each push takes 1 from S, modulo 256 (R242). -/
theorem pushAll_sp (vs : List Byte) (s : State) : (pushAll vs s).sp = s.sp - BitVec.ofNat 8 vs.length := by
  induction vs generalizing s with
  | nil => simp
  | cons v vs ih =>
    rw [pushAll_cons, ih, push_sp, List.length_cons, BitVec.ofNat_add, BitVec.sub_sub, BitVec.add_comm]

/-- The same in arithmetic: the wrap is the remainder modulo 256 of the true difference. -/
theorem toNat_pushAll_sp (vs : List Byte) (s : State) :
    ((pushAll vs s).sp.toNat : Int) = ((s.sp.toNat : Int) - (vs.length : Int)) % 256 := by
  rw [pushAll_sp, BitVec.toNat_sub, BitVec.toNat_ofNat]
  omega

/-- A push moves no page pointer, so every push of the list stays in the storage of the stack page. -/
theorem peek_pushAll_outside (vs : List Byte) (s : State) {b : Addr}
    (h : s.platform.locate b < 256 ∨ 512 ≤ s.platform.locate b) :
    (pushAll vs s).platform.peek b = s.platform.peek b := by
  induction vs generalizing s with
  | nil => rfl
  | cons v vs ih =>
    calc (pushAll vs (push v s)).platform.peek b
        = (push v s).platform.peek b := ih (push v s) (by rwa [push_locate])
      _ = s.platform.peek b := peek_push_outside v s h

/-- The last byte pushed lies where S stood before it. -/
theorem peek_pushAll_last (vs : List Byte) (v : Byte) (s : State) :
    (pushAll (vs ++ [v]) s).platform.peek (stackAddr (pushAll vs s).sp) = v := by
  rw [pushAll_append_singleton, peek_push_same]

/-- Settles O32, by induction on the list of pushes; the 257 pushes are the pointer's law at that length. -/
theorem stackWrapsInItsPage : Obligations.StackWrapsInItsPage := by
  intro vs s
  refine ⟨toNat_pushAll_sp vs s, fun _ => peek_pushAll_outside vs s, fun v => peek_pushAll_last vs v s, ?_⟩
  intro hlen hsp
  rw [pushAll_sp, hlen, hsp]
  decide

end Sys2Proof.Machine
end

section
/-! PROOFS. Jumps (44_control.md R260, R261, R142): O35 and O36. -/
namespace Sys2Proof.Machine

/-- Settles O35: the two branches of R260's test on the operand. -/
theorem jumpAbsolute : Obligations.JumpAbsolute := by
  intro w s
  refine ⟨fun hne => if_neg hne, fun hself => (if_pos hself).trans ?_⟩
  rw [hself]
  rfl

/-- The carry out of the pointer's low byte is dropped, so the high byte is read in the pointer's page (R142). -/
theorem toNat_indHighAddr (w : Addr) : (indHighAddr w).toNat = w.toNat / 256 * 256 + (w.toNat + 1) % 256 := by
  rw [indHighAddr, toNat_cat, BitVec.toNat_add, toNat_hi8, toNat_lo8]
  simp

/-- Settles O36: the high byte comes from `indHighAddr`, on the state that the low byte's read leaves. -/
theorem jumpIndirectWrapsInPage : Obligations.JumpIndirectWrapsInPage :=
  fun w _ => ⟨indHighAddr w, toNat_indHighAddr w, rfl⟩

end Sys2Proof.Machine
end

section
/-! PROOFS. Pushes and pops of addresses, and the call and return built on them (43_flag_stack_ops.md R240 to R242,
44_control.md R262, R263): O37 and O38. -/
namespace Sys2Proof.Machine

/-! Two and three moves of the stack pointer as one. -/

theorem sub_one_sub_one (o : Byte) : o - 1#8 - 1#8 = o - 2#8 := BitVec.sub_sub o 1#8 1#8

theorem sub_one_thrice (o : Byte) : o - 1#8 - 1#8 - 1#8 = o - 3#8 := by
  rw [sub_one_sub_one]
  exact BitVec.sub_sub o 1#8 2#8

theorem add_one_add_one (o : Byte) : o + 1#8 + 1#8 = o + 2#8 := BitVec.add_assoc o 1#8 1#8

theorem add_one_thrice (o : Byte) : o + 1#8 + 1#8 + 1#8 = o + 3#8 := by
  rw [add_one_add_one]
  exact BitVec.add_assoc o 1#8 2#8

/-! A push leaves the rest of the stack page alone, so both bytes of an address stay readable where they were pushed. -/

theorem peek_push_stackAddr_of_ne (v : Byte) (s : State) {o : Byte} (h : o ≠ s.sp) :
    (push v s).platform.peek (stackAddr o) = s.platform.peek (stackAddr o) :=
  peek_push_other v s (stackAddr_locate_inj _ h)

theorem peek_pushAddr_hi (w : Addr) (s : State) : (pushAddr w s).platform.peek (stackAddr s.sp) = hi8 w := by
  have hne : s.sp ≠ (push (hi8 w) s).sp := by rw [push_sp]; bv_omega
  rw [pushAddr, peek_push_stackAddr_of_ne _ _ hne, peek_push_same]

theorem peek_pushAddr_lo (w : Addr) (s : State) : (pushAddr w s).platform.peek (stackAddr (s.sp - 1#8)) = lo8 w :=
  peek_push_same (lo8 w) (push (hi8 w) s)

theorem peek_pushAddr_other (w : Addr) (s : State) {b : Addr}
    (hhi : s.platform.locate b ≠ s.platform.locate (stackAddr s.sp))
    (hlo : s.platform.locate b ≠ s.platform.locate (stackAddr (s.sp - 1#8))) :
    (pushAddr w s).platform.peek b = s.platform.peek b :=
  (peek_push_other (lo8 w) (push (hi8 w) s) hlo).trans (peek_push_other (hi8 w) s hhi)

/-- Two pops as one update: the low byte is the first one above S (R71). -/
theorem popAddr_eq (s : State) :
    popAddr s = (cat (s.platform.peek (stackAddr (s.sp + 2#8))) (s.platform.peek (stackAddr (s.sp + 1#8))),
      s.setSp (s.sp + 2#8)) := by
  rw [← add_one_add_one]
  rfl

/-- JSR as one update: PC, S and `clocks` beside the two bytes pushed. -/
theorem exec_jsr (w : Addr) (s : State) :
    exec (.jsr w) s = .next { s with
      platform := (pushAddr (jsrReturn s) s).platform, sp := s.sp - 2#8, pc := w, clocks := s.clocks + 6 } := by
  rw [← sub_one_sub_one]
  rfl

/-- Settles O37: the two bytes are the ones `pushAddr` stores, of the return address under either offset. -/
theorem subroutineCall : Obligations.SubroutineCall := by
  intro w s
  refine ⟨_, jsrReturn s, exec_jsr w s, fun htwo => ?_, fun hthree => ?_, rfl, peek_pushAddr_hi _ s,
    peek_pushAddr_lo _ s, fun _ => peek_pushAddr_other _ s⟩
  · rw [jsrReturn, htwo, jsrOffset]
  · rw [jsrReturn, hthree, jsrOffset]

/-- Settles O38: a pop of an address, and one added to it. -/
theorem subroutineReturn : Obligations.SubroutineReturn := by
  intro s
  have hret : exec .rts s = .next (spend 6 ((popAddr s).2.setPc ((popAddr s).1 + 1#16))) := rfl
  rw [hret, popAddr_eq]
  rfl

end Sys2Proof.Machine
end

section
/-! PROOFS. The conditional branches (44_control.md R266 to R274): O40. -/
namespace Sys2Proof.Machine

/-- The sign-extended offset stands for the offset's signed value modulo 65536. -/
theorem toNat_sext (off : Byte) : ((sext off).toNat : Int) = off.toInt % 65536 := by
  rw [sext, BitVec.signExtend, BitVec.toNat_ofInt]
  omega

/-- The target in arithmetic: the offset is signed and the sum wraps at 65536 (R141). -/
theorem toNat_branchTarget (pc0 : Addr) (off : Byte) :
    ((branchTarget pc0 off).toNat : Int) = ((pc0.toNat : Int) + 2 + off.toInt) % 65536 := by
  have hoff := toNat_sext off
  rw [branchTarget, BitVec.toNat_add, BitVec.toNat_add, BitVec.toNat_ofNat]
  omega

/-- Base cost and extra together: 3 cycles within the page of `pc0 + 2`, 4 across it (R266). -/
theorem two_add_branchExtra (pc0 : Addr) (off : Byte) :
    2 + branchExtra pc0 off = if hi8 (branchTarget pc0 off) = hi8 (pc0 + 2#16) then 3 else 4 := by
  by_cases hpage : hi8 (branchTarget pc0 off) = hi8 (pc0 + 2#16)
  · rw [branchExtra, if_neg (not_not_intro hpage), if_pos hpage]
  · rw [branchExtra, if_pos hpage, if_neg hpage]

/-- An instruction of two bytes and base cost 2 that runs class branch on `cond` does what R266 says. -/
theorem branchesOn_of_runBranch {i : Instr} {cond : Bool} {off : Byte} {s : State}
    (hexec : exec i s = .next (runBranch i.row cond off s)) (hlen : i.row.length = 2) (hcyc : i.row.cycles = 2) :
    BranchesOn cond i off s := by
  refine ⟨_, hexec, ?_⟩
  rw [runBranch, finish, hlen, hcyc]
  cases cond with
  | true =>
    exact ⟨rfl, fun _ => ⟨toNat_branchTarget s.pc off, congrArg _ (two_add_branchExtra s.pc off)⟩, nofun⟩
  | false => exact ⟨rfl, nofun, fun _ => ⟨rfl, rfl⟩⟩

/-- Settles O40: each branch is class branch on its flag, with two bytes and base cost 2. -/
theorem conditionalBranches : Obligations.ConditionalBranches := by
  intro s off
  refine ⟨?_, ?_, ?_, ?_, ?_, ?_, ?_, ?_⟩ <;> exact branchesOn_of_runBranch rfl rfl rfl

end Sys2Proof.Machine
end

section
/-! PROOFS. BRK and RTI (44_control.md R275, R276), from what the interrupt entry pushes and what a popped status byte
loads (10_state.md R30, R32): O42 and O43. -/
namespace Sys2Proof.Machine

/-! What an entry pushes: the address, then the status byte. -/

/-- The byte packed after `resolveToP` is the status byte of R29 and R30. -/
theorem isPackedStatus_packedP (s : State) (b : Bool) : IsPackedStatus (s.resolveToP.packedP b) s b := by
  have hbit (j : Nat) := (getLsbD_packedP s.resolveToP b j).trans (by rw [s.getLsbD_resolveToP])
  exact ⟨hbit 7, hbit 6, hbit 5, hbit 4, hbit 3, hbit 2, hbit 1, hbit 0⟩

/-- The three bytes lie at S, S - 1 and S - 2, none of them over another. -/
theorem peek_push_pushAddr (v : Byte) (w : Addr) (s : State) :
    (push v (pushAddr w s)).platform.peek (stackAddr s.sp) = hi8 w ∧
    (push v (pushAddr w s)).platform.peek (stackAddr (s.sp - 1#8)) = lo8 w ∧
    (push v (pushAddr w s)).platform.peek (stackAddr (s.sp - 2#8)) = v := by
  have hsp : (pushAddr w s).sp = s.sp - 2#8 := sub_one_sub_one s.sp
  have hhi : s.sp ≠ (pushAddr w s).sp := by rw [hsp]; bv_omega
  have hlo : s.sp - 1#8 ≠ (pushAddr w s).sp := by rw [hsp]; bv_omega
  refine ⟨?_, ?_, ?_⟩
  · rw [peek_push_stackAddr_of_ne _ _ hhi, peek_pushAddr_hi]
  · rw [peek_push_stackAddr_of_ne _ _ hlo, peek_pushAddr_lo]
  · rw [← hsp, peek_push_same]

section
variable {vec : Addr} {s : State} (b : Bool) (hlo : s.platform.sideEffectFree (hi8 vec) = true)
  (hhi : s.platform.sideEffectFree (hi8 (vec + 1#16)) = true)
include hlo hhi

/-- Reading the vector from side-effect-free pages leaves storage as the three pushes left it. -/
theorem interruptEntry_platform_of_plain :
    (interruptEntry vec b s).platform = (push (s.resolveToP.packedP b) (pushAddr s.pc s)).platform := by
  rw [interruptEntry_plain vec b s hlo hhi]
  rfl

/-- PC is then the vector's two bytes as storage shows them after the pushes. -/
theorem interruptEntry_pc_of_plain :
    (interruptEntry vec b s).pc = cat ((interruptEntry vec b s).platform.peek (vec + 1#16))
      ((interruptEntry vec b s).platform.peek vec) := by
  rw [interruptEntry_plain vec b s hlo hhi]

end

theorem interruptEntry_sp_eq_sub_three (vec : Addr) (b : Bool) (s : State) :
    (interruptEntry vec b s).sp = s.sp - 3#8 :=
  (interruptEntry_sp vec b s).trans (sub_one_thrice s.sp)

theorem interruptEntry_iFlag (vec : Addr) (b : Bool) (s : State) : (interruptEntry vec b s).iFlag = true := by
  rw [State.iFlag, interruptEntry_p, getLsbD_setBit _ _ _ _ (by decide), if_pos rfl]

/-- The Break given to the entry goes into the pushed byte only (R32, R305). -/
theorem interruptEntry_bFlag (vec : Addr) (b : Bool) (s : State) : (interruptEntry vec b s).bFlag = s.bFlag := by
  rw [State.bFlag, interruptEntry_p, getLsbD_setBit _ _ _ _ (by decide), s.resolveToP_bits]
  rfl

theorem exec_brk (s : State) :
    exec .brk s = .next (interruptEntry Config.vecIrq true { s with pc := s.pc + 2#16 }) := rfl

/-- Settles O42: BRK is the entry from `pc0 + 2` through a vector in page 0xFF, and moving PC changes no flag. -/
theorem softwareInterrupt : Obligations.SoftwareInterrupt := by
  intro s
  refine ⟨_, exec_brk s, rfl, interruptEntry_iFlag _ _ _, interruptEntry_sp_eq_sub_three _ _ _,
    interruptEntry_clocks _ _ _, interruptEntry_bFlag _ _ _, fun hplain => ⟨?_, ?_⟩⟩
  · exact interruptEntry_pc_of_plain true hplain hplain
  · obtain ⟨hhi, hlo, hstatus⟩ := peek_push_pushAddr (s.resolveToP.packedP true) (s.pc + 2#16) s
    rw [interruptEntry_platform_of_plain true hplain hplain]
    exact ⟨hhi, hlo, (congrArg (IsPackedStatus · s true) hstatus).mpr (isPackedStatus_packedP s true)⟩

/-! What a popped status byte loads. -/

/-- The live flags are read off `P` and the lazy fields, so every state that agrees with `loadStatus` there has them. -/
theorem flagsFrom_of_loadStatus {s t : State} {v : Byte} (hp : t.p = (s.loadStatus v).p)
    (hzr : t.zr = (s.loadStatus v).zr) (hnr : t.nr = (s.loadStatus v).nr) (hcr : t.cr = (s.loadStatus v).cr) :
    FlagsFrom t v where
  negative := (congrArg (BitVec.getLsbD · 7) hnr).trans (s.loadStatus_nFlag v)
  overflow := (congrArg (BitVec.getLsbD · 6) hp).trans (s.loadStatus_bits v 6)
  decimal := (congrArg (BitVec.getLsbD · 3) hp).trans (s.loadStatus_bits v 3)
  interrupt := (congrArg (BitVec.getLsbD · 2) hp).trans (s.loadStatus_bits v 2)
  zero := (congrArg (· == 0x00#8) hzr).trans (s.loadStatus_zFlag v)
  carry := hcr.trans (s.loadStatus_cFlag v)

/-- RTI as one update of the state that the popped status byte leaves. -/
theorem exec_rti (s : State) :
    exec .rti s = .next { s.loadStatus (s.platform.peek (stackAddr (s.sp + 1#8))) with
      sp := s.sp + 3#8
      pc := cat (s.platform.peek (stackAddr (s.sp + 3#8))) (s.platform.peek (stackAddr (s.sp + 2#8)))
      clocks := s.clocks + 6 } := by
  have hreturn : exec .rti s = .next (spend 6 (interruptReturn s)) := rfl
  rw [hreturn, interruptReturn_eq, add_one_thrice, add_one_add_one]
  rfl

/-- Settles O43: the flags are those the popped byte loads, PC the address popped after it. -/
theorem returnFromInterrupt : Obligations.ReturnFromInterrupt :=
  fun s => ⟨_, exec_rti s, rfl, flagsFrom_of_loadStatus rfl rfl rfl rfl, s.loadStatus_bits _ bitB,
    s.loadStatus_bits _ bitR⟩

end Sys2Proof.Machine
end

section
/-! PROOFS. Interrupt entry, `IRQ()` and the NMI service at the end of a batch (60_exceptions.md R305 to R307, R312,
R323): O41, O45 and O46. -/
namespace Sys2Proof.Machine

/-! The state an entry reads its vector from. -/

/-- The state right after the three pushes of an entry, before the vector reads (R305): storage, S and the positions of
`P` that are not live are written, nothing else. -/
def entryPushed (b : Bool) (s : State) : State :=
  { s with
    p := s.resolveToP.p
    sp := s.sp - 3#8
    platform := (push (s.resolveToP.packedP b) (pushAddr s.pc s)).platform }

theorem entryPushed_platform (b : Bool) (s : State) :
    (entryPushed b s).platform = (push (s.resolveToP.packedP b) (pushAddr s.pc s)).platform := by
  rw [entryPushed]

/-- It is what the entry's own sequence leaves: the address pushed, the status resolved, then pushed. -/
theorem push_packedP_eq_entryPushed (b : Bool) (s : State) :
    push ((pushAddr s.pc s).resolveToP.packedP b) (pushAddr s.pc s).resolveToP = entryPushed b s := by
  apply State.ext <;>
    simp [entryPushed, State.resolveToP, State.nFlag, State.zFlag, State.cFlag, State.packedP, sub_one_thrice]

/-- The three bytes that the pushes leave on the stack, and every other byte unchanged. -/
theorem peek_entryPushed (b : Bool) (s : State) :
    (entryPushed b s).platform.peek (stackAddr s.sp) = hi8 s.pc ∧
    (entryPushed b s).platform.peek (stackAddr (s.sp - 1#8)) = lo8 s.pc ∧
    IsPackedStatus ((entryPushed b s).platform.peek (stackAddr (s.sp - 2#8))) s b ∧
    ∀ c : Addr, s.platform.locate c ≠ s.platform.locate (stackAddr s.sp) →
      s.platform.locate c ≠ s.platform.locate (stackAddr (s.sp - 1#8)) →
      s.platform.locate c ≠ s.platform.locate (stackAddr (s.sp - 2#8)) →
      (entryPushed b s).platform.peek c = s.platform.peek c := by
  obtain ⟨hhi, hlo, hstatus⟩ := peek_push_pushAddr (s.resolveToP.packedP b) s.pc s
  rw [entryPushed_platform]
  refine ⟨hhi, hlo, (congrArg (IsPackedStatus · s b) hstatus).mpr (isPackedStatus_packedP s b), ?_⟩
  intro c h0 h1 h2
  have h2' : (pushAddr s.pc s).platform.locate c ≠
      (pushAddr s.pc s).platform.locate (stackAddr (pushAddr s.pc s).sp) := by
    simpa only [pushAddr_platform, Platform.poke_locate, pushAddr_sp, sub_one_sub_one] using h2
  exact (peek_push_other _ _ h2').trans (peek_pushAddr_other s.pc s h0 h1)

/-- An entry is the pushes, then two bus reads at the vector, low address first (R72, R305). -/
theorem interruptEntry_eq_memReads (vec : Addr) (b : Bool) (s : State) :
    interruptEntry vec b s =
      { (memRead (vec + 1#16) (memRead vec (entryPushed b s)).2).2 with
        p := setBit s.resolveToP.p 2 true
        pc := cat (memRead (vec + 1#16) (memRead vec (entryPushed b s)).2).1 (memRead vec (entryPushed b s)).1
        clocks := s.clocks + 7 } := by
  rw [interruptEntry_eq, push_packedP_eq_entryPushed]
  rfl

/-! The flags after an entry. -/

/-- Where `resolveToP` leaves a bit of `P`, an entry does what setting I does. -/
theorem getLsbD_interruptEntry_p (vec : Addr) (b : Bool) (s : State) {j : Nat}
    (hj : s.resolveToP.p.getLsbD j = s.p.getLsbD j) :
    (interruptEntry vec b s).p.getLsbD j = (s.setI true).p.getLsbD j := by
  rw [interruptEntry_p, State.setI_p, getLsbD_setBit _ _ _ _ (by decide), getLsbD_setBit _ _ _ _ (by decide), hj]

/-- Of the live flags an entry writes I only. -/
theorem interruptEntry_sameFlags (vec : Addr) (b : Bool) (s : State) :
    SameFlags (interruptEntry vec b s) (s.setI true) where
  negative := congrArg (·.getLsbD 7) (interruptEntry_nr vec b s)
  overflow := getLsbD_interruptEntry_p vec b s (s.resolveToP_bits bitV)
  decimal := getLsbD_interruptEntry_p vec b s (s.resolveToP_bits bitD)
  interrupt := getLsbD_interruptEntry_p vec b s (s.resolveToP_bits bitI)
  zero := congrArg (· == 0x00#8) (interruptEntry_zr vec b s)
  carry := interruptEntry_cr vec b s

theorem interruptEntry_rFlag (vec : Addr) (b : Bool) (s : State) : (interruptEntry vec b s).rFlag = s.rFlag := by
  have hset : (s.setI true).p.getLsbD bitR = s.p.getLsbD bitR := getLsbD_setBit_of_ne _ _ (by decide) (by decide)
  exact (getLsbD_interruptEntry_p vec b s (s.resolveToP_bits bitR)).trans hset

/-- Reading the vector from side-effect-free pages leaves the interface record alone. -/
theorem interruptEntry_iface_of_plain {vec : Addr} (b : Bool) {s : State}
    (hlo : s.platform.sideEffectFree (hi8 vec) = true)
    (hhi : s.platform.sideEffectFree (hi8 (vec + 1#16)) = true) :
    (interruptEntry vec b s).iface = s.iface := by
  rw [interruptEntry_plain vec b s hlo hhi]

/-- Settles O41: the pushes fix storage and S, the two vector reads PC, and neither vector straddles two pages. -/
theorem interruptEntrySavesAndVectors : Obligations.InterruptEntrySavesAndVectors := by
  intro vec b s hvec
  obtain ⟨hhi, hlo, hstatus, hother⟩ := peek_entryPushed b s
  refine ⟨interruptEntry_sp_eq_sub_three vec b s, interruptEntry_iFlag vec b s, interruptEntry_clocks vec b s,
    interruptEntry_sameFlags vec b s, interruptEntry_bFlag vec b s, interruptEntry_rFlag vec b s,
    interruptEntry_a vec b s, interruptEntry_x vec b s, interruptEntry_y vec b s, interruptEntry_nextStop vec b s,
    interruptEntry_halted vec b s, ?_, fun hplain => ?_⟩
  · exact ⟨entryPushed b s, rfl, hhi, hlo, hstatus, hother, interruptEntry_eq_memReads vec b s⟩
  · have hplain' : s.platform.sideEffectFree (hi8 (vec + 1#16)) = true := by
      rwa [hi8_vector_succ (hvec.imp_right .inr)]
    refine ⟨interruptEntry_iface_of_plain b hplain hplain', interruptEntry_pc_of_plain b hplain hplain', ?_⟩
    rw [interruptEntry_platform_of_plain b hplain hplain', ← entryPushed_platform]
    exact ⟨hhi, hlo, hstatus, hother⟩

/-! `IRQ()`. -/

theorem irq_of_unmasked {s : State} (hI : s.iFlag = false) (hs : s.halted = false) :
    irq s = interruptEntry Config.vecIrq false s := by
  rw [irq, hI, hs]
  rfl

theorem irq_of_masked {s : State} (hI : s.iFlag = true) : irq s = s := by
  rw [irq, hI]
  rfl

/-- The entry of an NMI service sets I, so no `IRQ()` gets through right after it (R312). -/
theorem serviceNmi_iFlag (s : State) : (serviceNmi s).iFlag = true := interruptEntry_iFlag Config.vecNmi false s

/-- Settles O45: `IRQ()` tests I and `halted`, and an NMI entry has set I. -/
theorem maskableInterrupt : Obligations.MaskableInterrupt :=
  ⟨fun _ => irq_of_unmasked, fun _ h => h.elim irq_of_masked irq_of_halted,
    fun s => irq_of_masked (serviceNmi_iFlag s)⟩

/-! The end of a batch. -/

theorem endBatch_of_pending {s : State} (hnmi : s.iface.nmiPending = true) (hs : s.halted = false) :
    endBatch s = serviceNmi s := by
  rw [endBatch, hnmi, hs]
  rfl

theorem endBatch_of_not_pending {s : State} (hnmi : s.iface.nmiPending = false) : endBatch s = s := by
  rw [endBatch, hnmi]
  rfl

theorem endBatch_of_halted {s : State} (hs : s.halted = true) : endBatch s = s := by
  rw [endBatch, hs, Bool.not_true, Bool.and_false]
  rfl

theorem serviceNmi_clocks (s : State) : (serviceNmi s).clocks = s.clocks + 7 :=
  interruptEntry_clocks Config.vecNmi false s

/-- Settles O46: a pending NMI is the entry through `VEC_NMI` with the flag cleared after it, I being not looked at. -/
theorem nmiServicedAtEndOfBatch : Obligations.NmiServicedAtEndOfBatch :=
  ⟨fun s hnmi hs => ⟨serviceNmi s, endBatch_of_pending hnmi hs, rfl, serviceNmi_clocks s, serviceNmi_iFlag s, rfl⟩,
    fun _ h => h.elim endBatch_of_not_pending endBatch_of_halted⟩

end Sys2Proof.Machine
end

section
/-! PROOFS. What a step keeps of the scheduler's state (60_exceptions.md R303, R321, 20_memory.md R68): O52. -/
namespace Sys2Proof.Machine

/-- From `s` to `t` no NMI request is lost, and `nextStop` and the open parameter stay. -/
structure KeepsSchedulerState (s t : State) : Prop where
  nmiPending : s.iface.nmiPending = true → t.iface.nmiPending = true
  nextStop : t.nextStop = s.nextStop
  jsrPushOffset : t.jsrPushOffset = s.jsrPushOffset

theorem KeepsSchedulerState.trans {s t u : State} (h : KeepsSchedulerState s t) (h' : KeepsSchedulerState t u) :
    KeepsSchedulerState s u :=
  ⟨fun hs => h'.nmiPending (h.nmiPending hs), h'.nextStop.trans h.nextStop, h'.jsrPushOffset.trans h.jsrPushOffset⟩

/-- What leaves the interface record alone loses no request. -/
theorem KeepsSchedulerState.of_eq {s t : State} (hiface : t.iface = s.iface) (hstop : t.nextStop = s.nextStop)
    (hjsr : t.jsrPushOffset = s.jsrPushOffset) : KeepsSchedulerState s t :=
  ⟨fun hs => hiface ▸ hs, hstop, hjsr⟩

/-! The accesses: a device may raise the request, never withdraw it (log 11). -/

theorem fetch_keepsSchedulerState (s : State) : KeepsSchedulerState s (fetch s).2 :=
  ⟨fetch_nmi s, fetch_nextStop s, fetch_jsrPushOffset s⟩

theorem readMem_keepsSchedulerState (o : MemOperand) (s : State) : KeepsSchedulerState s (readMem o s).2 :=
  ⟨readMem_nmi o s, readMem_nextStop o s, readMem_jsrPushOffset o s⟩

theorem readOperand_keepsSchedulerState (o : ReadOperand) (s : State) : KeepsSchedulerState s (readOperand o s).2 :=
  ⟨readOperand_nmi o s, readOperand_nextStop o s, readOperand_jsrPushOffset o s⟩

theorem writeAt_keepsSchedulerState (fast : Bool) (a : Addr) (v : Byte) (s : State) :
    KeepsSchedulerState s (writeAt fast a v s) :=
  ⟨writeAt_nmi fast a v s, writeAt_nextStop fast a v s, writeAt_jsrPushOffset fast a v s⟩

theorem storeOperand_keepsSchedulerState (o : MemOperand) (v : Byte) (s : State) :
    KeepsSchedulerState s (storeOperand o v s) :=
  ⟨storeOperand_nmi o v s, storeOperand_nextStop o v s, storeOperand_jsrPushOffset o v s⟩

theorem indirectTarget_keepsSchedulerState (w : Addr) (s : State) : KeepsSchedulerState s (indirectTarget w s).2 :=
  ⟨fun hs => memRead_nmi _ _ (memRead_nmi _ _ hs), rfl, rfl⟩

theorem interruptEntry_keepsSchedulerState (v : Addr) (b : Bool) (s : State) :
    KeepsSchedulerState s (interruptEntry v b s) :=
  have hnmi (hs : s.iface.nmiPending = true) : (interruptEntry v b s).iface.nmiPending = true := by
    rw [interruptEntry_eq_memReads]
    exact memRead2_nmi v (entryPushed b s) hs
  ⟨hnmi, interruptEntry_nextStop v b s, interruptEntry_jsrPushOffset v b s⟩

/-! The operations of the instructions write registers, flags and the stack page. -/

theorem ReadOf.keepsSchedulerState {m : Mnemonic} {op : Byte → State → State} (hop : ReadOf m op) (b : Byte)
    (s : State) : KeepsSchedulerState s (op b s) := by
  cases hop <;> exact .of_eq rfl rfl rfl

theorem RmwOf.keepsSchedulerState {m : Mnemonic} {op : Byte → State → Byte × State} (hop : RmwOf m op) (b : Byte)
    (s : State) : KeepsSchedulerState s (op b s).2 := by
  cases hop <;> exact .of_eq rfl rfl rfl

theorem ImpliedOf.keepsSchedulerState {m : Mnemonic} {op : State → State} (hop : ImpliedOf m op) (s : State) :
    KeepsSchedulerState s (op s) := by
  cases hop
  case plp => constructor <;> simp [pullStatus]
  all_goals exact .of_eq rfl rfl rfl

theorem finish_keepsSchedulerState (r : OpRow) (e : Nat) (s : State) : KeepsSchedulerState s (finish r e s) :=
  .of_eq rfl rfl rfl

/-- Every instruction keeps the scheduler's state: each template passes it from the accesses through the operation. -/
theorem Does.keepsSchedulerState {i : Instr} {s t : State} (h : Does i s t) : KeepsSchedulerState s t := by
  cases h with
  | read r m o op hr hcls hm hop =>
    exact ((readOperand_keepsSchedulerState o s).trans (hop.keepsSchedulerState _ _)).trans
      (finish_keepsSchedulerState r _ _)
  | store r o v => exact (storeOperand_keepsSchedulerState o v s).trans (finish_keepsSchedulerState r 0 _)
  | rmw r m o op hr hcls hmode ho hm hop =>
    exact (((readMem_keepsSchedulerState o s).trans (hop.keepsSchedulerState _ _)).trans
      (writeAt_keepsSchedulerState o.fast (o.ea s) _ _)).trans (finish_keepsSchedulerState r 0 _)
  | acc r m op hr hcls hmode hm hmn hop => exact (hop.keepsSchedulerState s.a s).trans (.of_eq rfl rfl rfl)
  | implied r m op hr hcls hm hop => exact (hop.keepsSchedulerState s).trans (finish_keepsSchedulerState r 0 _)
  | branch r m cond off =>
    exact .of_eq (runBranch_iface r cond off s) (runBranch_nextStop r cond off s) (runBranch_jsrPushOffset r cond off s)
  | selfJump => exact .of_eq rfl rfl rfl
  | jump w => exact .of_eq rfl rfl rfl
  | jumpIndirect w => exact (indirectTarget_keepsSchedulerState w s).trans (.of_eq rfl rfl rfl)
  | call w => constructor <;> simp
  | ret => constructor <;> simp
  | brk =>
    have hpc : KeepsSchedulerState s (s.setPc (s.pc + Config.brkPushOffset)) := .of_eq rfl rfl rfl
    exact hpc.trans (interruptEntry_keepsSchedulerState Config.vecBrk true _)
  | rti => constructor <;> simp

theorem step_keepsSchedulerState {s t : State} (h : step s = .next t) : KeepsSchedulerState s t := by
  obtain ⟨i, hi⟩ | rfl := step_next_cases h
  · exact (fetch_keepsSchedulerState s).trans (does_of_exec hi).keepsSchedulerState
  · exact (fetch_keepsSchedulerState s).trans (.of_eq rfl rfl rfl)

/-- Settles O52: the fetch and each template an instruction can run keep the scheduler's state. -/
theorem stepKeepsSchedulerState : Obligations.StepKeepsSchedulerState := by
  intro s t h
  obtain ⟨hnmi, hstop, hjsr⟩ := step_keepsSchedulerState h
  exact ⟨hnmi, hstop, hjsr⟩

end Sys2Proof.Machine
end

section
/-! PROOFS. What a step costs, and the loop of a batch (60_exceptions.md R320 to R323, 70_reset_and_hazards.md R370):
O54, O55 and O56. -/
namespace Sys2Proof.Machine

/-! The cost of one step. -/

theorem ImpliedOf.keeps_clocks {m : Mnemonic} {op : State → State} (hop : ImpliedOf m op) (s : State) :
    (op s).clocks = s.clocks := by
  cases hop <;> rfl

/-- A template that ends with `finish` adds 2 to 7 cycles where the row and the extra cycles do (R130, R150). -/
theorem finish_clocks_bounds {r : OpRow} {e : Nat} {s u : State} (hu : u.clocks = s.clocks)
    (hcost : 2 ≤ r.cycles + e ∧ r.cycles + e ≤ 7) :
    s.clocks + 2 ≤ (finish r e u).clocks ∧ (finish r e u).clocks ≤ s.clocks + 7 := by
  rw [finish_clocks, hu]
  omega

/-- So does one that writes PC itself and ends with `spend`. -/
theorem spend_clocks_bounds {c : Nat} {s u : State} (hu : u.clocks = s.clocks) (hcost : 2 ≤ c ∧ c ≤ 7) :
    s.clocks + 2 ≤ (spend c u).clocks ∧ (spend c u).clocks ≤ s.clocks + 7 := by
  rw [spend_clocks, hu]
  omega

/-- A branch costs 2 cycles not taken, 3 or 4 taken (R266). -/
theorem runBranch_clocks_bounds {r : OpRow} (hcost : r.cycles = 2) (cond : Bool) (off : Byte) (s : State) :
    s.clocks + 2 ≤ (runBranch r cond off s).clocks ∧ (runBranch r cond off s).clocks ≤ s.clocks + 7 := by
  have hextra := branchExtra_bounds s.pc off
  cases cond with
  | true => exact spend_clocks_bounds (u := s.setPc _) rfl (by omega)
  | false => exact finish_clocks_bounds (u := s) rfl (by omega)

/-- An instruction costs 2 to 7 cycles, but for the self-jump, which goes to `nextStop` (R260, R370). -/
theorem Does.clocks_cases {i : Instr} {s t : State} (h : Does i s t) :
    (i = .jmpAbs s.pc ∧ t.clocks = s.nextStop) ∨ (s.clocks + 2 ≤ t.clocks ∧ t.clocks ≤ s.clocks + 7) := by
  cases h with
  | selfJump hi => exact .inl ⟨hi, rfl⟩
  | read r m o op hr hcls hm hop hcost =>
    have hpenalty := penalty_le r (o.cross s)
    exact .inr (finish_clocks_bounds ((hop.keeps_pc_clocks _ _).2.trans (readOperand_clocks o s)) (by omega))
  | store r o v hr hcls ho hv hcost => exact .inr (finish_clocks_bounds (storeOperand_clocks o v s) (by omega))
  | rmw r m o op hr hcls hmode ho hm hop hcost =>
    have hclocks := (hop.keeps_pc_clocks (readMem o s).1 (readMem o s).2).2.trans (readMem_clocks o s)
    exact .inr (finish_clocks_bounds ((writeAt_clocks _ _ _ _).trans hclocks) (by omega))
  | acc r m op hr hcls hmode hm hmn hop hcost =>
    exact .inr (finish_clocks_bounds (u := (op s.a s).2.setA _) (hop.keeps_pc_clocks s.a s).2 (by omega))
  | implied r m op hr hcls hm hop hcost => exact .inr (finish_clocks_bounds (hop.keeps_clocks s) (by omega))
  | branch r m cond off hr hcls hm hop hcost => exact .inr (runBranch_clocks_bounds hcost cond off s)
  | jump w => exact .inr (spend_clocks_bounds (s.setPc_clocks w) (by decide))
  | jumpIndirect w =>
    exact .inr (spend_clocks_bounds ((State.setPc_clocks _ _).trans (indirectTarget_clocks w s)) (by decide))
  | call w =>
    exact .inr (spend_clocks_bounds ((State.setPc_clocks _ _).trans (pushAddr_clocks _ s)) (by decide))
  | ret => exact .inr (spend_clocks_bounds ((State.setPc_clocks _ _).trans (popAddr_clocks s)) (by decide))
  | brk =>
    have hclocks := interruptEntry_clocks Config.vecBrk true (s.setPc (s.pc + Config.brkPushOffset))
    rw [State.setPc_clocks] at hclocks
    omega
  | rti => exact .inr (spend_clocks_bounds (interruptReturn_clocks s) (by decide))

/-- What a step does to the clock: it halts and leaves it, or goes to `nextStop`, or adds 2 to 7 cycles. -/
theorem step_clocks_cases {s t : State} (h : step s = .next t) :
    (t.halted = true ∧ t.clocks = s.clocks) ∨ t.clocks = s.nextStop ∨
      (s.clocks + 2 ≤ t.clocks ∧ t.clocks ≤ s.clocks + 7) := by
  obtain ⟨i, hi⟩ | rfl := step_next_cases h
  · have hcases := (does_of_exec hi).clocks_cases
    rw [fetch_clocks, fetch_nextStop] at hcases
    exact .inr (hcases.imp_left And.right)
  · exact .inl ⟨rfl, fetch_clocks s⟩

/-! The loop: each instruction that does not halt uses up at least one of the cycles that bound the fuel (R322). -/

theorem runBatch_of_stopped (fuel : Nat) {s : State} (h : s.halted = true ∨ s.nextStop ≤ s.clocks) :
    runBatch fuel s = .next s := by
  cases fuel with
  | zero => rfl
  | succ fuel =>
    refine if_neg fun hrun => ?_
    obtain ⟨hclocks, hs⟩ := hrun
    rcases h with h | h
    · rw [hs] at h; cases h
    · omega

theorem runBatch_succ_of_step (fuel : Nat) {s t : State} (hclocks : s.clocks < s.nextStop) (hs : s.halted = false)
    (h : step s = .next t) : runBatch (fuel + 1) s = runBatch fuel t := by
  rw [runBatch, if_pos ⟨hclocks, hs⟩, h]

/-- With `nextStop - clocks` of fuel the loop ends by its own test; from below `nextStop` it ends at most 6 cycles past
it. -/
theorem runBatch_ends {fuel : Nat} {s : State} (hfuel : s.halted = true ∨ s.nextStop ≤ s.clocks + fuel) :
    ∃ u, runBatch fuel s = .next u ∧ (u.halted = true ∨ s.nextStop ≤ u.clocks) ∧ u.nextStop = s.nextStop ∧
      u.clocks ≤ max s.clocks (s.nextStop + 6) := by
  induction fuel generalizing s with
  | zero => exact ⟨s, rfl, hfuel, rfl, le_max_left _ _⟩
  | succ fuel ih =>
    by_cases hstop : s.halted = true ∨ s.nextStop ≤ s.clocks
    · exact ⟨s, runBatch_of_stopped _ hstop, hstop, rfl, le_max_left _ _⟩
    · obtain ⟨hs, hbelow⟩ := not_or.mp hstop
      obtain ⟨t, ht⟩ := step_total (Bool.eq_false_iff.mpr hs)
      have hnext : t.nextStop = s.nextStop := (step_keepsSchedulerState ht).nextStop
      have hcost := step_clocks_cases ht
      have hfuel' : t.halted = true ∨ t.nextStop ≤ t.clocks + fuel := by
        have hleft := hfuel.resolve_left hs
        obtain ⟨hhalted, -⟩ | hself | ⟨hadded, -⟩ := hcost
        · exact .inl hhalted
        · exact .inr (by omega)
        · exact .inr (by omega)
      obtain ⟨u, hu, hend, hstop', hbound⟩ := ih hfuel'
      have hrun := runBatch_succ_of_step fuel (not_le.mp hbelow) (Bool.eq_false_iff.mpr hs) ht
      exact ⟨u, hrun.trans hu, hnext ▸ hend, hstop'.trans hnext, by omega⟩

/-- The loop of a batch, from any state: it ends halted or at the boundary sampled at its start (R321, R322). -/
theorem batchLoop_ends (s : State) :
    ∃ u, batchLoop { s with nextStop := boundary s } = .next u ∧ (u.halted = true ∨ boundary s ≤ u.clocks) ∧
      u.nextStop = boundary s ∧ u.clocks ≤ max s.clocks (boundary s + 6) :=
  runBatch_ends (.inr le_add_tsub)

/-- A scheduler step is the end of a batch on what the loop answers (R320). -/
theorem schedulerStep_of_batchLoop {s u : State} (hs : s.halted = false)
    (h : batchLoop { s with nextStop := boundary s } = .next u) : schedulerStep s = .next (endBatch u) := by
  have hloop : batchLoop (s.setNextStop (boundary s)) = .next u := h
  simp only [schedulerStep, hs, hloop]
  rfl

/-- Settles O54: the fuel suffices for the loop's own test to end it. -/
theorem schedulerStepTerminates : Obligations.SchedulerStepTerminates := by
  intro s hs
  obtain ⟨u, hu, hend, hnext, -⟩ := batchLoop_ends s
  exact ⟨u, hu, hend, hnext, schedulerStep_of_batchLoop hs hu⟩

/-- The end of a batch adds nothing or one entry. -/
theorem endBatch_clocks (s : State) : (endBatch s).clocks = s.clocks ∨ (endBatch s).clocks = s.clocks + 7 := by
  unfold endBatch
  split
  · exact .inr (serviceNmi_clocks s)
  · exact .inl rfl

/-- Settles O55: the loop ends at most 6 cycles past the boundary, and at or past the boundary it runs nothing. -/
theorem schedulerStepOverrun : Obligations.SchedulerStepOverrun := by
  intro s t hs h
  obtain ⟨u, hu, -, -, hbound⟩ := batchLoop_ends s
  have hclocks := endBatch_clocks u
  cases (schedulerStep_of_batchLoop hs hu).symm.trans h
  refine ⟨fun hbelow => ?_, fun hreached => ?_⟩
  · rw [max_eq_right (by omega)] at hbound
    omega
  · cases (runBatch_of_stopped _ (.inr hreached)).symm.trans hu
    exact ⟨rfl, hclocks⟩

/-! The boundary. -/

/-- One test of the boundary takes the smaller of the value so far and a threshold, where that is armed (R321). -/
theorem armed_min_cases {armed : Prop} [Decidable armed] {x b c : Nat} (hx : x = if armed then min b c else b) :
    x ≤ b ∧ (armed → x ≤ c) ∧ (x = b ∨ armed ∧ x = c) := by
  by_cases hset : armed
  · rw [if_pos hset] at hx
    exact ⟨by omega, fun _ => by omega, (min_choice b c).imp hx.trans fun h => ⟨hset, hx.trans h⟩⟩
  · rw [if_neg hset] at hx
    exact ⟨hx.le, fun h => absurd h hset, .inl hx⟩

/-- Settles O56: the mapper's test, then the NMI's on what it leaves. -/
theorem boundaryIsLeastArmedThreshold : Obligations.BoundaryIsLeastArmedThreshold := by
  intro s
  obtain ⟨hle, hirq, hfirst⟩ := armed_min_cases (armed := s.iface.irqClocks ≠ 0) (b := s.iface.ppuClocks)
    (c := s.iface.irqClocks) rfl
  obtain ⟨hle', hpending, hboundary⟩ := armed_min_cases (x := boundary s) rfl
  refine ⟨hle'.trans hle, fun h => hle'.trans (hirq h), hpending, ?_⟩
  obtain h' | h' := hboundary
  · exact hfirst.imp h'.trans fun h => .inl ⟨h.1, h'.trans h.2⟩
  · exact .inr (.inr h')

end Sys2Proof.Machine
end

section
/-! PROOFS. What the collaborators write between scheduler steps (60_exceptions.md R325, 20_memory.md R61, R64): O60. -/
namespace Sys2Proof.Machine

/-- A repointing moves the pointer of its page and no other (R61). -/
theorem Platform.shown_repoint (pl : Platform) (page : MappablePage) (target : Nat) (p : Byte) :
    (pl.repoint page target).shown p = if p = page.val then target else pl.shown p := by
  by_cases hp : p = page.val
  · subst hp
    rw [if_pos rfl, Platform.shown, page.property]
    exact Sparse.get_set_same _ pl.map _ target
  · have hne : p.toNat ≠ page.val.toNat := fun h => hp (BitVec.eq_of_toNat_eq h)
    rw [if_neg hp, Platform.shown, Platform.shown]
    exact congrArg (ite _ _) (Sparse.get_set_other _ pl.map target hne)

/-- Any page but 0 and `STACK_PAGE` can be repointed (R64). -/
theorem isRamPage_eq_false {p : Byte} (h0 : p ≠ 0x00#8) (h1 : p ≠ 0x01#8) : isRamPage p = false :=
  Bool.eq_false_iff.mpr fun h => ((isRamPage_iff p).mp h).elim h0 h1

/-- Settles O60: each move is one update of the interface record or the platform, and `RAM` pages cannot be moved. -/
theorem collaboratorsWriteNoCoreRegister : Obligations.CollaboratorsWriteNoCoreRegister := by
  refine ⟨fun s ppu req hdue hlater => if_pos ⟨hdue, hlater⟩, fun s rearm hset hdue => if_pos ⟨hset, hdue⟩,
    fun s c => ⟨_, rfl, rfl⟩, fun s page target h0 h1 => ?_, fun s page target h => ?_, fun pl r o => ?_⟩
  · have hpage := isRamPage_eq_false h0 h1
    exact ⟨_, move_repoint page target s hpage, rfl, s.platform.shown_repoint ⟨page, hpage⟩ target⟩
  · exact move_repoint_ram page target s ((isRamPage_iff page).mpr h)
  · exact ⟨locate_zpAddr (pl.reply r) o, locate_stackAddr (pl.reply r) o⟩

end Sys2Proof.Machine
end

section
/-! PROOFS. The cost of an instruction, and the clock inside a batch (70_reset_and_hazards.md R370, 44_control.md R260):
O53. -/
namespace Sys2Proof.Machine

/-- The self-jump sets `clocks` to `nextStop`, whatever the state (R260, D21). -/
theorem clocks_of_exec_selfJump {s t : State} (h : exec (.jmpAbs s.pc) s = .next t) : t.clocks = s.nextStop := by
  cases ((jumpAbsolute s.pc s).2 rfl).symm.trans h
  rfl

/-- A step from at or below `nextStop` never turns the clock back: whichever way it moves, it stays or goes up. -/
theorem clocks_le_of_step {s t : State} (hle : s.clocks ≤ s.nextStop) (h : step s = .next t) : s.clocks ≤ t.clocks := by
  obtain ⟨-, hhalts⟩ | hselfJump | ⟨hadded, -⟩ := step_clocks_cases h
  · exact hhalts.ge
  · exact hle.trans_eq hselfJump.symm
  · exact Nat.le_of_add_right_le hadded

/-- Settles O53: the self-jump goes to `nextStop`, any other instruction has the cost of its template. -/
theorem instructionCostBounds : Obligations.InstructionCostBounds := by
  refine ⟨fun i s t h => ?_, fun _ _ => clocks_le_of_step⟩
  by_cases hself : i = .jmpAbs s.pc
  · exact .inl ⟨hself, clocks_of_exec_selfJump (hself ▸ h)⟩
  · have hcost := (does_of_exec h).clocks_cases.resolve_left fun hjump => hself hjump.1
    exact .inr ⟨hself, hcost⟩

end Sys2Proof.Machine
end

section
/-! PROOFS. The encoder and the decoder (30_encoding.md R101 to R103, R110, R116): O1, O2 and O4. -/
namespace Sys2Proof

/-! The dispatch table against the rows: no instruction missing, no entry misplaced. -/

/-- The instructions that an entry of the dispatch table builds. -/
inductive OpForm.Builds : Instr → OpForm → Prop where
  | f1 (i : Instr) : Builds i (.f1 i)
  | f2 (mk : Byte → Instr) (b1 : Byte) : Builds (mk b1) (.f2 mk)
  | f3 (mk : Addr → Instr) (w : Addr) : Builds (mk w) (.f3 mk)

/-- Every instruction that an entry builds is spelled by opcode byte `b0` and its operand in the entry's format. -/
inductive OpForm.SpelledBy (b0 : Byte) : OpForm → Prop where
  | f1 {i : Instr} (h : encode i = [b0]) : SpelledBy b0 (.f1 i)
  | f2 {mk : Byte → Instr} (h : ∀ b1, encode (mk b1) = [b0, b1]) : SpelledBy b0 (.f2 mk)
  | f3 {mk : Addr → Instr} (h : ∀ w, encode (mk w) = [b0, Machine.lo8 w, Machine.hi8 w]) : SpelledBy b0 (.f3 mk)

/-- The entry at an instruction's opcode builds that instruction (R110). -/
theorem opTable_opcode_builds (i : Instr) : ∃ f, opTable i.row.opcode = some f ∧ f.Builds i := by
  cases i <;> exact ⟨_, rfl, by constructor⟩

/-- What an entry builds has the entry's key for opcode (R102, R110): one case for each of the 151 rows. -/
theorem opTable_spelledBy {b0 : Byte} {f : OpForm} (h : opTable b0 = some f) : f.SpelledBy b0 := by
  unfold opTable at h
  split at h <;> cases h <;> constructor <;> intros <;> rfl

/-- Settles O1: the entry at the opcode builds the instruction from the operand bytes that follow, and a 16-bit operand
is put together from the two bytes it was taken apart into. -/
theorem decodeAfterEncode : Obligations.DecodeAfterEncode := by
  intro i rest
  obtain ⟨f, hf, hbuilds⟩ := opTable_opcode_builds i
  cases hbuilds with
  | f1 i =>
    cases opTable_spelledBy hf with | f1 hspell
    rw [hspell]
    exact decode_f1 rest hf
  | f2 mk b1 =>
    cases opTable_spelledBy hf with | f2 hspell
    rw [hspell]
    exact decode_f2 b1 rest hf
  | f3 mk w =>
    cases opTable_spelledBy hf with | f3 hspell
    rw [hspell]
    refine (decode_f3 (Machine.lo8 w) (Machine.hi8 w) rest hf).trans ?_
    rw [Machine.cat_hi8_lo8]

/-- What the decoder has read when it answers an instruction: an opcode byte with an entry, and the operand bytes of the
entry's format. -/
theorem decode_ok_cases {bs rest : List Byte} {i : Instr} (h : decode bs = .ok (i, rest)) :
    ∃ b0, (bs = b0 :: rest ∧ opTable b0 = some (.f1 i)) ∨
      (∃ mk b1, bs = b0 :: b1 :: rest ∧ opTable b0 = some (.f2 mk) ∧ i = mk b1) ∨
      (∃ mk b1 b2, bs = b0 :: b1 :: b2 :: rest ∧ opTable b0 = some (.f3 mk) ∧ i = mk (Machine.cat b2 b1)) := by
  unfold decode at h
  split at h
  · cases h
  · next b0 bs' =>
    refine ⟨b0, ?_⟩
    split at h
    · cases h
    · next hf => cases h; exact .inl ⟨rfl, hf⟩
    · next mk hf =>
      split at h <;> cases h
      exact .inr (.inl ⟨mk, _, rfl, hf, rfl⟩)
    · next mk hf =>
      split at h <;> cases h
      exact .inr (.inr ⟨mk, _, _, rfl, hf, rfl⟩)

/-- Settles O2: the entry the decoder used spells what it built by the bytes it read. -/
theorem encodeAfterDecode : Obligations.EncodeAfterDecode := by
  intro bs i rest h
  obtain ⟨b0, ⟨rfl, hf⟩ | ⟨mk, b1, rfl, hf, rfl⟩ | ⟨mk, b1, b2, rfl, hf, rfl⟩⟩ := decode_ok_cases h
  · cases opTable_spelledBy hf with | f1 hspell
    rw [hspell]
    rfl
  · cases opTable_spelledBy hf with | f2 hspell
    rw [hspell]
    rfl
  · cases opTable_spelledBy hf with | f3 hspell
    rw [hspell, Machine.lo8_cat, Machine.hi8_cat]
    rfl

/-- Settles O4: the twelve words, each run through the decoder. -/
theorem opcodeWordsDecode : Obligations.OpcodeWordsDecode := by
  unfold Obligations.OpcodeWordsDecode
  decide +kernel

end Sys2Proof
end

section
/-! PROOFS. Storage in canonical form, bus reads after bus writes, and the instruction placed for the next step
(20_memory.md R61 to R67; log 2, log 12, log 13): O11, O9 and O7. -/
namespace Sys2Proof.Machine

/-! Canonical storage. -/

/-- A key that no entry lists reads as the default. -/
theorem Sparse.get_of_unlisted {α : Type} (d : Nat → α) {l : List (Nat × α)} {k : Nat} (h : ∀ c ∈ l, c.1 ≠ k) :
    Sparse.get d l k = d k := by
  induction l with
  | nil => rfl
  | cons c l ih =>
    obtain ⟨hne, hrest⟩ := List.forall_mem_cons.mp h
    exact (if_neg hne).trans (ih hrest)

section
variable {α : Type} [DecidableEq α] {d : Nat → α} {k : Nat} {v : α} {l l' : List (Nat × α)}

/-- Where the first entry of a canonical list lies below every key of another, the two read differently at its key. -/
theorem Sparse.get_ne_of_wf_cons (hwf : Sparse.wf d ((k, v) :: l) = true) (h : ∀ c ∈ l', k < c.1) :
    Sparse.get d ((k, v) :: l) k ≠ Sparse.get d l' k := by
  obtain ⟨-, hv, -⟩ := (Sparse.wf_cons d).mp hwf
  rw [Sparse.get_of_unlisted d fun c hc => (h c hc).ne']
  exact fun heq => hv ((if_pos rfl).symm.trans heq)

end

/-- A canonical list is determined by what it reads: at the smaller of two different first keys the lists would read
differently, so their first entries agree, and then so do the rest. -/
theorem Sparse.ext_of_wf {α : Type} [DecidableEq α] {d : Nat → α} {l l' : List (Nat × α)} (hl : Sparse.wf d l = true)
    (hl' : Sparse.wf d l' = true) (h : ∀ k, Sparse.get d l k = Sparse.get d l' k) : l = l' := by
  induction l generalizing l' with
  | nil =>
    cases l' with
    | nil => rfl
    | cons c' l' => exact absurd (h c'.1).symm (Sparse.get_ne_of_wf_cons hl' nofun)
  | cons c l ih =>
    cases l' with
    | nil => exact absurd (h c.1) (Sparse.get_ne_of_wf_cons hl nofun)
    | cons c' l' =>
      obtain ⟨k, v⟩ := c
      obtain ⟨k', v'⟩ := c'
      obtain ⟨hk, hv, hwf⟩ := (Sparse.wf_cons d).mp hl
      obtain ⟨hk', hv', hwf'⟩ := (Sparse.wf_cons d).mp hl'
      obtain hlt | rfl | hgt := lt_trichotomy k k'
      · refine absurd (h k) (Sparse.get_ne_of_wf_cons hl (List.forall_mem_cons.mpr ⟨hlt, fun c hc => ?_⟩))
        exact hlt.trans (hk' c hc)
      · have hvv' : v = v' := by simpa [Sparse.get] using h k
        have hrest : ∀ j, Sparse.get d l j = Sparse.get d l' j := by
          intro j
          by_cases hj : k = j
          · subst hj
            rw [Sparse.get_of_unlisted d fun c hc => (hk c hc).ne', Sparse.get_of_unlisted d fun c hc => (hk' c hc).ne']
          · simpa [Sparse.get, hj] using h j
        rw [hvv', ih hwf hwf' hrest]
      · refine absurd (h k').symm (Sparse.get_ne_of_wf_cons hl' (List.forall_mem_cons.mpr ⟨hgt, fun c hc => ?_⟩))
        exact hgt.trans (hk c hc)

/-- Settles O11: storage is a sparse list, and canonical lists are extensional. -/
theorem canonicalStorageIsExtensional : Obligations.CanonicalStorageIsExtensional :=
  fun _ _ => Sparse.ext_of_wf

/-! Read after write. -/

/-- Addresses that show the same storage show the same byte. -/
theorem Platform.peek_congr (pl : Platform) {a b : Addr} (h : pl.locate b = pl.locate a) : pl.peek b = pl.peek a := by
  rw [Platform.peek, Platform.peek, h]

/-- Settles O9: at plain pages the write is a `poke` and the read a `Peek`, also through a second page that shows the
same storage. -/
theorem busReadAfterBusWrite : Obligations.BusReadAfterBusWrite := by
  intro s a b v hwrite hread
  rw [memWrite_plain a v s hwrite, memRead_plain b s hread]
  rw [memRead_plain b (s.setPlatform (s.platform.poke a v)) hread]
  refine ⟨rfl, fun hsame => ?_, fun hother => s.platform.peek_poke_other v hother⟩
  exact ((s.platform.poke a v).peek_congr hsame).trans (s.platform.peek_poke_same a v)

/-! Placing an instruction. -/

/-- The offset in the page is the last byte of the storage address, so addresses of different offsets never show the
same storage, whatever the page pointers. -/
theorem Platform.locate_ne_of_lo8_ne (pl : Platform) {a b : Addr} (h : lo8 a ≠ lo8 b) : pl.locate a ≠ pl.locate b := by
  intro heq
  apply h
  apply BitVec.eq_of_toNat_eq
  have ha := (lo8 a).isLt
  have hb := (lo8 b).isLt
  unfold Platform.locate at heq
  omega

theorem lo8_add_ne (a : Addr) {i j : Addr} (h : lo8 i ≠ lo8 j) : lo8 (a + i) ≠ lo8 (a + j) := by
  have hadd (k : Addr) : lo8 (a + k) = lo8 a + lo8 k := BitVec.setWidth_add a k (by decide)
  rw [hadd, hadd]
  exact fun heq => h (add_left_cancel heq)

/-- Three bytes placed at consecutive addresses are read back there: their offsets differ, so no store lands on another,
mirrored pages included. -/
theorem peek_placeBytes_three (pl : Platform) (a : Addr) (b0 b1 b2 : Byte) :
    (placeBytes pl a [b0, b1, b2]).peek a = b0 ∧ (placeBytes pl a [b0, b1, b2]).peek (a + 1#16) = b1 ∧
      (placeBytes pl a [b0, b1, b2]).peek (a + 2#16) = b2 := by
  have hplace : placeBytes pl a [b0, b1, b2] = ((pl.poke a b0).poke (a + 1#16) b1).poke (a + 2#16) b2 := by
    simp only [placeBytes, BitVec.add_assoc]
    rfl
  have h01 : lo8 a ≠ lo8 (a + 1#16) := by simpa using lo8_add_ne a (i := 0#16) (j := 1#16) (by decide)
  have h02 : lo8 a ≠ lo8 (a + 2#16) := by simpa using lo8_add_ne a (i := 0#16) (j := 2#16) (by decide)
  have h12 : lo8 (a + 1#16) ≠ lo8 (a + 2#16) := lo8_add_ne a (by decide)
  rw [hplace]
  refine ⟨?_, ?_, Platform.peek_poke_same _ _ _⟩
  · rw [Platform.peek_poke_other _ _ (Platform.locate_ne_of_lo8_ne _ h02),
      Platform.peek_poke_other _ _ (Platform.locate_ne_of_lo8_ne _ h01), Platform.peek_poke_same]
  · rw [Platform.peek_poke_other _ _ (Platform.locate_ne_of_lo8_ne _ h12), Platform.peek_poke_same]

/-- What a table word stands for is what the decoder reads from its three bytes. -/
theorem decode_of_decodeTableWord {nbits w : Nat} {i : Instr} (h : decodeTableWord nbits w = some i) :
    ∃ rest, decode (bytesOfNat 3 (w % 2 ^ nbits)) = .ok (i, rest) := by
  unfold decodeTableWord at h
  split at h <;> cases h
  exact ⟨_, ‹_›⟩

/-- A page of the placed instruction is not among the pages whose reads are the platform's own (log 13). -/
theorem placeProgram_sideEffectFree (s : State) (nbits w : Nat) {p : Byte}
    (hp : p = hi8 s.pc ∨ p = hi8 (s.pc + 1#16) ∨ p = hi8 (s.pc + 2#16)) :
    (placeProgram s nbits w).sideEffectFree p = true := by
  have hnot : p ∉ (placeProgram s nbits w).readIo := by
    simp only [placeProgram, List.mem_filter, not_and]
    rintro -
    rcases hp with rfl | rfl | rfl <;> simp
  simp [Platform.sideEffectFree, hnot]

/-- The bytes that the next step fetches are those of the word. -/
theorem peek_placeProgram (s : State) (nbits w : Nat) :
    [(placeProgram s nbits w).peek s.pc, (placeProgram s nbits w).peek (s.pc + 1#16),
      (placeProgram s nbits w).peek (s.pc + 2#16)] = bytesOfNat 3 (w % 2 ^ nbits) := by
  have hpeek (a : Addr) : (placeProgram s nbits w).peek a =
      (placeBytes s.platform s.pc (bytesOfNat 3 (w % 2 ^ nbits))).peek a := rfl
  obtain ⟨b0, b1, b2, hbytes⟩ : ∃ b0 b1 b2, bytesOfNat 3 (w % 2 ^ nbits) = [b0, b1, b2] := ⟨_, _, _, rfl⟩
  obtain ⟨h0, h1, h2⟩ := peek_placeBytes_three s.platform s.pc b0 b1 b2
  rw [hpeek, hpeek, hpeek, hbytes, h0, h1, h2]

/-- Settles O7: the three fetched pages are plain, the three bytes are read back, and they decode as the word does. -/
theorem placedInstructionRuns : Obligations.PlacedInstructionRuns := by
  intro s nbits w i hs hw
  obtain ⟨rest, hdec⟩ := decode_of_decodeTableWord hw
  have hplain : FetchPlain (s.withFetchWord nbits w) :=
    ⟨placeProgram_sideEffectFree s nbits w (.inl rfl), placeProgram_sideEffectFree s nbits w (.inr (.inl rfl)),
      placeProgram_sideEffectFree s nbits w (.inr (.inr rfl))⟩
  rw [← peek_placeProgram s nbits w] at hdec
  exact stepRunsDecodedInstruction.2.1 (s.withFetchWord nbits w) i rest hs hplain hdec

end Sys2Proof.Machine
end

section
/-! PROOFS. The effective addresses (40_dispatch_addressing.md R135 to R144): O13. -/
namespace Sys2Proof.Machine

theorem toNat_zext (z : Byte) : (zext z).toNat = z.toNat := BitVec.toNat_setWidth_of_le (by decide)

/-- A 16-bit base plus an index wraps at 65536 (R138, R139, R144). -/
theorem toNat_add_zext (w : Addr) (index : Byte) : (w + zext index).toNat = (w.toNat + index.toNat) % 65536 := by
  rw [BitVec.toNat_add, toNat_zext]

/-- A zero-page read takes its byte from the storage of `RAM` page 0 (R64). -/
theorem zpRead_eq_read (z : Byte) (s : State) : zpRead z s = Memory.read s.platform.store z.toNat := by
  rw [zpRead, Platform.peek, locate_zpAddr]

/-- A zero-page pointer in arithmetic: low byte first, the second byte's address wrapping in the page (R143, R144). -/
theorem toNat_zpPointer (z : Byte) (s : State) :
    (zpPointer z s).toNat = (Memory.read s.platform.store z.toNat).toNat +
      256 * (Memory.read s.platform.store ((z.toNat + 1) % 256)).toNat := by
  rw [zpPointer, toNat_cat, zpRead_eq_read, zpRead_eq_read, BitVec.toNat_add, Nat.add_comm, Nat.mul_comm]
  rfl

/-- Settles O13: the zero-page sums wrap as bytes, the 16-bit ones as addresses. -/
theorem effectiveAddresses : Obligations.EffectiveAddresses := by
  intro s z w
  have hindexed (index : Byte) : (zext (z + index)).toNat = (z.toNat + index.toNat) % 256 := by
    rw [toNat_zext, BitVec.toNat_add]
  refine ⟨toNat_zext z, hindexed s.x, hindexed s.y, rfl, toNat_add_zext w s.x, toNat_add_zext w s.y, ?_, ?_⟩
  · have hpointer := toNat_zpPointer (z + s.x) s
    rwa [BitVec.toNat_add, Nat.mod_add_mod] at hpointer
  · rw [← toNat_zpPointer]
    exact toNat_add_zext (zpPointer z s) s.y

end Sys2Proof.Machine
end

section
/-! PROOFS. The stores (41_load_store_transfer.md R173 to R176), from what every class store instruction answers: O17
and O18. -/
namespace Sys2Proof.Machine

/-! Class store. -/

/-- Instruction `i` is class store on operand `o` of the value `v` takes from the state, and its row has the length and
the cycles that R101 and R366 tabulate for that operand. -/
structure RunsStore (v : State → Byte) (i : Instr) (o : MemOperand) : Prop where
  exec_eq_runStore : ∀ s, exec i s = .next (runStore i.row o (v s) s)
  row_length : i.row.length = memLength o
  row_cycles : i.row.cycles = storeCycles o

/-- A class store instruction stores its register at its operand and advances PC and `clocks` by the tabulated length
and the fixed cost. -/
theorem RunsStore.exec_eq {v : State → Byte} {i : Instr} {o : MemOperand} (h : RunsStore v i o) (s : State) :
    exec i s = .next { storeOperand o (v s) s with
      pc := s.pc + BitVec.ofNat 16 (memLength o), clocks := s.clocks + storeCycles o } := by
  rw [h.exec_eq_runStore, runStore_eq, h.row_length, h.row_cycles]

theorem StaForms.imp {P Q : Instr → MemOperand → Prop} (hP : StaForms P) (h : ∀ i o, P i o → Q i o) : StaForms Q := by
  obtain ⟨hZp, hZpx, hAbs, hAbx, hAby, hIzx, hIzy⟩ := hP
  exact ⟨fun z => h _ _ (hZp z), fun z => h _ _ (hZpx z), fun w => h _ _ (hAbs w), fun w => h _ _ (hAbx w),
    fun w => h _ _ (hAby w), fun z => h _ _ (hIzx z), fun z => h _ _ (hIzy z)⟩

theorem StxForms.imp {P Q : Instr → MemOperand → Prop} (hP : StxForms P) (h : ∀ i o, P i o → Q i o) : StxForms Q := by
  obtain ⟨hZp, hZpy, hAbs⟩ := hP
  exact ⟨fun z => h _ _ (hZp z), fun z => h _ _ (hZpy z), fun w => h _ _ (hAbs w)⟩

theorem StyForms.imp {P Q : Instr → MemOperand → Prop} (hP : StyForms P) (h : ∀ i o, P i o → Q i o) : StyForms Q := by
  obtain ⟨hZp, hZpx, hAbs⟩ := hP
  exact ⟨fun z => h _ _ (hZp z), fun z => h _ _ (hZpx z), fun w => h _ _ (hAbs w)⟩

theorem sta_runsStore : StaForms (RunsStore State.a) := by
  refine ⟨?_, ?_, ?_, ?_, ?_, ?_, ?_⟩ <;> exact fun _ => ⟨fun _ => rfl, rfl, rfl⟩

theorem stx_runsStore : StxForms (RunsStore State.x) := by
  refine ⟨?_, ?_, ?_⟩ <;> exact fun _ => ⟨fun _ => rfl, rfl, rfl⟩

theorem sty_runsStore : StyForms (RunsStore State.y) := by
  refine ⟨?_, ?_, ?_⟩ <;> exact fun _ => ⟨fun _ => rfl, rfl, rfl⟩

/-- Settles O17: every form is class store, and `StoreOperand` splits by the mode as R176 says. -/
theorem storesMakeDummyReadThenWrite : Obligations.StoresMakeDummyReadThenWrite :=
  ⟨fun s => sta_runsStore.imp fun _ _ h => h.exec_eq s, fun s => stx_runsStore.imp fun _ _ h => h.exec_eq s,
    fun s => sty_runsStore.imp fun _ _ h => h.exec_eq s⟩

/-! An instruction runs the template of its row's class. -/

/-- What an instruction that writes memory through its operand does, by its class: a store runs class store; a
read-modify-write with a memory operand runs class rmw. -/
def RunsItsClass (i : Instr) (s t : State) : OpClass → Prop
  | .store => ∃ o v, memOperandOf i.operand = some o ∧ storedRegister i.row.mnemonic s = some v ∧
      t = runStore i.row o v s
  | .rmw => i.row.mode ≠ .imp → ∃ o op, memOperandOf i.operand = some o ∧ RmwOf i.row.mnemonic op ∧
      t = runRmw i.row o op s
  | .read | .implied | .jump | .branch => True

theorem Does.runsItsClass {i : Instr} {s t : State} (h : Does i s t) : RunsItsClass i s t i.row.cls := by
  cases h with
  | store r o v hr hcls ho hv => subst hr; rw [hcls]; exact ⟨o, v, ho, hv, rfl⟩
  | rmw r m o op hr hcls hmode ho hm hop => subst hr hm; rw [hcls]; exact fun _ => ⟨o, op, ho, hop, rfl⟩
  | acc r m op hr hcls hmode => subst hr; rw [hcls]; exact absurd hmode
  | read r m o op hr hcls => subst hr; rw [hcls]; trivial
  | implied r m op hr hcls => subst hr; rw [hcls]; trivial
  | branch r m cond off hr hcls => subst hr; rw [hcls]; trivial
  | selfJump hi | jump w hi | jumpIndirect w hi | call w hi | ret hi | brk hi | rti hi => subst hi; trivial

/-- An instruction whose row is class store runs that class, on its memory operand and its register. -/
theorem Does.eq_runStore {i : Instr} {s t : State} (h : Does i s t) (hcls : i.row.cls = .store) {o : MemOperand}
    {v : Byte} (ho : memOperandOf i.operand = some o) (hv : storedRegister i.row.mnemonic s = some v) :
    t = runStore i.row o v s := by
  have hruns := h.runsItsClass
  rw [hcls] at hruns
  obtain ⟨o', v', ho', hv', rfl⟩ := hruns
  cases ho'.symm.trans ho
  cases hv'.symm.trans hv
  rfl

/-! The frame of a store. -/

/-- At a plain page a store is one `poke`, and the end of the step. -/
theorem runStore_plain (r : OpRow) (o : MemOperand) (v : Byte) (s : State)
    (hread : s.platform.sideEffectFree (hi8 (o.ea s)) = true) (hwrite : s.platform.plainWrite (hi8 (o.ea s)) = true) :
    runStore r o v s = finish r 0 (s.setPlatform (s.platform.poke (o.ea s) v)) := by
  rw [runStore, storeOperand_plain o v s hread hwrite]

/-- Settles O18: the instruction is class store, and at a plain page all it writes is one byte, PC and `clocks`. -/
theorem storesWriteOnlyTheirByte : Obligations.StoresWriteOnlyTheirByte := by
  intro i o v s hcls ho hv hread hwrite
  obtain ⟨t, hexec, hdoes⟩ := exec_does i s
  rw [hdoes.eq_runStore hcls ho hv, runStore_plain i.row o v s hread hwrite] at hexec
  exact ⟨_, hexec, s.platform.peek_poke_same _ v, fun _ => s.platform.peek_poke_other v, rfl, rfl, rfl, rfl, rfl,
    .of_fields rfl rfl rfl rfl, rfl⟩

end Sys2Proof.Machine
end

section
/-! PROOFS. INC and DEC on memory, and the frame of every read-modify-write on memory (42_arith_logic.md R214, R215,
20_memory.md section 3), from what every class rmw instruction answers: O26 and O29. -/
namespace Sys2Proof.Machine

theorem inc_runsRmw : FourRmwForms .incZp .incZpx .incAbs .incAbx fun i o cyc => RunsRmw i o cyc incOp := by
  refine ⟨?_, ?_, ?_, ?_⟩ <;> exact fun _ => ⟨.inc, fun _ => rfl, rfl, rfl⟩

theorem dec_runsRmw : FourRmwForms .decZp .decZpx .decAbs .decAbx fun i o cyc => RunsRmw i o cyc decOp := by
  refine ⟨?_, ?_, ?_, ?_⟩ <;> exact fun _ => ⟨.dec, fun _ => rfl, rfl, rfl⟩

theorem toNat_add_one (v : Byte) : (v + 1#8).toNat = (v.toNat + 1) % 256 := BitVec.toNat_add v 1#8

theorem toNat_sub_one (v : Byte) : (v - 1#8).toNat = (v.toNat + 255) % 256 := by
  rw [BitVec.toNat_sub, Nat.add_comm]
  rfl

/-- A class rmw operation that yields `b` and sets Zero and Negative from it, on memory: one write of `b`, the two
flags, and nothing else but what the read changed. -/
theorem RunsRmw.exec_setZN {i : Instr} {o : MemOperand} {cyc : Nat} {op : Byte → State → Byte × State} {s : State}
    (h : RunsRmw i o cyc op) {b : Byte} (hop : op (readMem o s).1 (readMem o s).2 = (b, (readMem o s).2.setZN b)) :
    ∃ t, exec i s = .next t ∧
      t = { writeAt o.fast (o.ea s) b (readMem o s).2 with
            zr := t.zr, nr := t.nr, pc := s.pc + BitVec.ofNat 16 (memLength o), clocks := s.clocks + cyc } ∧
      t.zFlag = (b == 0x00#8) ∧ t.nFlag = b.getLsbD 7 := by
  refine ⟨_, h.exec_eq s, ?_⟩
  rw [hop, writeAt_setZN]
  exact ⟨rfl, rfl, rfl⟩

/-- Settles O26: every form is class rmw, and its operation steps the byte and sets Zero and Negative from it. -/
theorem incrementAndDecrementMemory : Obligations.IncrementAndDecrementMemory := by
  refine fun s => ⟨inc_runsRmw.imp fun i o cyc h => ?_, dec_runsRmw.imp fun i o cyc h => ?_⟩
  · obtain ⟨t, hexec, ht⟩ := h.exec_setZN (s := s) rfl
    exact ⟨t, _, hexec, toNat_add_one _, ht⟩
  · obtain ⟨t, hexec, ht⟩ := h.exec_setZN (s := s) rfl
    exact ⟨t, _, hexec, toNat_sub_one _, ht⟩

/-! The frame. -/

theorem operand_mode_eq_row_mode (i : Instr) : i.operand.mode = i.row.mode := by
  cases i <;> rfl

/-- An instruction in the implied mode has no memory operand. -/
theorem memOperandOf_eq_none_of_imp {i : Instr} (h : i.row.mode = .imp) : memOperandOf i.operand = none := by
  rw [← operand_mode_eq_row_mode] at h
  cases hop : i.operand with
  | imp => rfl
  | _ => rw [hop] at h; cases h

/-- An instruction whose row is class rmw and that has a memory operand runs that class on it. -/
theorem Does.eq_runRmw {i : Instr} {s t : State} (h : Does i s t) (hcls : i.row.cls = .rmw) {o : MemOperand}
    (ho : memOperandOf i.operand = some o) : ∃ op, RmwOf i.row.mnemonic op ∧ t = runRmw i.row o op s := by
  have hmode : i.row.mode ≠ .imp := fun himp => nomatch (memOperandOf_eq_none_of_imp himp).symm.trans ho
  have hruns := h.runsItsClass
  rw [hcls] at hruns
  obtain ⟨o', op, ho', hop, rfl⟩ := hruns hmode
  cases ho'.symm.trans ho
  exact ⟨op, hop, rfl⟩

/-- A class rmw operation writes the flags only: Zero and Negative from the byte it yields, and perhaps Carry. -/
theorem RmwOf.frame {m : Mnemonic} {op : Byte → State → Byte × State} (hop : RmwOf m op) (b : Byte) (s : State) :
    (op b s).2 = { s with zr := (op b s).1, nr := (op b s).1, cr := (op b s).2.cr } := by
  cases hop <;> rfl

/-- At a plain page a read-modify-write is a `poke` of the byte its operation yields; of the flags it writes Zero and
Negative from that byte, and perhaps Carry. -/
theorem runRmw_plain {m : Mnemonic} {op : Byte → State → Byte × State} (hop : RmwOf m op) (r : OpRow) (o : MemOperand)
    (s : State) (hread : s.platform.sideEffectFree (hi8 (o.ea s)) = true)
    (hwrite : s.platform.plainWrite (hi8 (o.ea s)) = true) :
    ∃ b c, runRmw r o op s =
      finish r 0 { s with platform := s.platform.poke (o.ea s) b, zr := b, nr := b, cr := c } := by
  refine ⟨(op (s.platform.peek (o.ea s)) s).1, (op (s.platform.peek (o.ea s)) s).2.cr, ?_⟩
  have hplatform : (op (s.platform.peek (o.ea s)) s).2.platform = s.platform := by rw [hop.frame]
  rw [runRmw, readMem_plain o s hread, writeAt_plain o _ s _ hplatform hwrite, hop.frame]
  rfl

/-- Settles O29: the instruction is class rmw on memory, and at a plain page all it stores is one byte. -/
theorem readModifyWriteChangesOnlyItsByte : Obligations.ReadModifyWriteChangesOnlyItsByte := by
  intro i o s hcls ho hread hwrite
  obtain ⟨t, hexec, hdoes⟩ := exec_does i s
  obtain ⟨op, hop, rfl⟩ := hdoes.eq_runRmw hcls ho
  obtain ⟨b, c, hrun⟩ := runRmw_plain hop i.row o s hread hwrite
  rw [hrun] at hexec
  have hbyte : (s.platform.poke (o.ea s) b).peek (o.ea s) = b := s.platform.peek_poke_same _ b
  exact ⟨_, hexec, fun _ => s.platform.peek_poke_other b, congrArg (· == 0x00#8) hbyte.symm,
    congrArg (BitVec.getLsbD · 7) hbyte.symm, rfl, rfl, rfl, rfl, rfl, rfl⟩

end Sys2Proof.Machine
end

section
/-! PROOFS. The class implied instructions that step an index register, move S, write one flag, push and pull
(42_arith_logic.md R216 to R219, 41_load_store_transfer.md R182, 43_flag_stack_ops.md R243 to R254): O27, O30, O33 and
O34. -/
namespace Sys2Proof.Machine

/-! Index steps and TXS. -/

/-- Settles O27: each step is the load of a register with its value plus or minus one. -/
theorem indexStepsAndTxs : Obligations.IndexStepsAndTxs := by
  intro s
  refine ⟨⟨_, exec_eq_of_runImplied (op := inxOp) rfl rfl rfl, rfl, toNat_add_one s.x, rfl, rfl⟩,
    ⟨_, exec_eq_of_runImplied (op := inyOp) rfl rfl rfl, rfl, toNat_add_one s.y, rfl, rfl⟩,
    ⟨_, exec_eq_of_runImplied (op := dexOp) rfl rfl rfl, rfl, toNat_sub_one s.x, rfl, rfl⟩,
    ⟨_, exec_eq_of_runImplied (op := deyOp) rfl rfl rfl, rfl, toNat_sub_one s.y, rfl, rfl⟩,
    exec_eq_of_runImplied (op := transferXS) rfl rfl rfl⟩

/-! Flag instructions. -/

/-- A one-byte, two-cycle class implied instruction that sets bit `j` of `P` writes that bit and nothing else. -/
theorem writesStatusBit_of_setBit {i : Instr} {op : State → State} {j : Nat} {v : Bool} {s : State} (hj : j < 8)
    (hexec : exec i s = .next (runImplied i.row op s)) (hlen : i.row.length = 1) (hcyc : i.row.cycles = 2)
    (hop : op s = s.setP (setBit s.p j v)) : WritesStatusBit i j v s := by
  rw [runImplied, hop, finish, hlen, hcyc] at hexec
  exact ⟨_, hexec, rfl, fun k => getLsbD_setBit s.p j v k hj⟩

/-- Settles O30: CLC and SEC write the lazy Carry, the others one bit of `P`, NOP nothing. -/
theorem flagInstructionsAndNop : Obligations.FlagInstructionsAndNop := by
  intro s
  refine ⟨rfl, rfl, ?_, ?_, ?_, ?_, ?_, rfl⟩ <;> exact writesStatusBit_of_setBit (by decide) rfl rfl rfl rfl

/-! Push and pull. -/

/-- Settles O33: PHA is a push of A, PLA a load of A with the popped byte. -/
theorem pushAndPullAccumulator : Obligations.PushAndPullAccumulator :=
  fun _ => ⟨exec_eq_of_runImplied (op := pushA) rfl rfl rfl,
    _, exec_eq_of_runImplied (op := pullA) rfl rfl rfl, rfl, rfl, rfl⟩

/-- Settles O34: PHP pushes the packed status of the resolved `P`, whose live flags, B and R are as before; PLP loads
the popped byte. -/
theorem pushAndPullStatus : Obligations.PushAndPullStatus := by
  intro s
  have hsame := s.resolveToP_sameFlags
  refine ⟨⟨_, s.resolveToP.packedP true, exec_eq_of_runImplied (op := pushStatus) rfl rfl rfl,
      isPackedStatus_packedP s true, rfl, ?_, s.resolveToP_bits bitB, s.resolveToP_bits bitR⟩,
    ⟨_, exec_eq_of_runImplied (op := pullStatus) rfl rfl rfl, rfl, flagsFrom_of_loadStatus rfl rfl rfl rfl,
      s.loadStatus_bits _ bitB, s.loadStatus_bits _ bitR⟩⟩
  exact ⟨hsame.negative, hsame.overflow, hsame.decimal, hsame.interrupt, hsame.zero, hsame.carry⟩

end Sys2Proof.Machine
end

section
/-! PROOFS. The two pairs that undo each other, call and return, interrupt entry and RTI (44_control.md R264,
60_exceptions.md R305, R311): O39 and O44. -/
namespace Sys2Proof.Machine

/-! Call and return. -/

/-- A pop of an address right after its push gives the address and S back. -/
theorem popAddr_pushAddr (w : Addr) (s : State) :
    (popAddr (pushAddr w s)).1 = w ∧ (popAddr (pushAddr w s)).2.sp = s.sp := by
  have hsp : (pushAddr w s).sp = s.sp - 2#8 := sub_one_sub_one s.sp
  have hhi : (pushAddr w s).sp + 2#8 = s.sp := by rw [hsp, BitVec.sub_add_cancel]
  have hlo : (pushAddr w s).sp + 1#8 = s.sp - 1#8 := by rw [hsp]; bv_omega
  rw [popAddr_eq]
  refine ⟨?_, hhi⟩
  rw [hhi, hlo, peek_pushAddr_hi, peek_pushAddr_lo, cat_hi8_lo8]

/-- Settles O39: RTS pops the address that JSR pushed, and adds one. -/
theorem callAndReturnPair : Obligations.CallAndReturnPair := by
  intro w s
  obtain ⟨hpc, hsp⟩ := popAddr_pushAddr (jsrReturn s) s
  have hresume := congrArg (· + 1#16) hpc
  refine ⟨_, _, rfl, rfl, hsp, fun htwo => hresume.trans ?_, fun hthree => hresume.trans ?_⟩
  · rw [jsrReturn, htwo]
    exact BitVec.add_assoc s.pc 2#16 1#16
  · rw [jsrReturn, hthree]
    exact BitVec.add_assoc s.pc 3#16 1#16

/-! Interrupt entry and return. -/

/-- The flags loaded from a pushed status byte are the flags it was packed from. -/
theorem FlagsFrom.sameFlags_of_isPackedStatus {s t : State} {v : Byte} {b : Bool} (h : FlagsFrom t v)
    (hv : IsPackedStatus v s b) : SameFlags t s where
  negative := h.negative.trans hv.negative
  overflow := h.overflow.trans hv.overflow
  decimal := h.decimal.trans hv.decimal
  interrupt := h.interrupt.trans hv.interrupt
  zero := h.zero.trans hv.zero
  carry := h.carry.trans hv.carry

/-- Settles O44: RTI pops the three bytes that the entry pushed, and with a side-effect-free vector page the entry has
changed nothing else that RTI does not put back but the clock. -/
theorem returnUndoesInterruptEntry : Obligations.ReturnUndoesInterruptEntry := by
  intro vec b s hvec hplain
  have hplain' : s.platform.sideEffectFree (hi8 (vec + 1#16)) = true := by
    rwa [hi8_vector_succ (hvec.imp_right .inr)]
  obtain ⟨hhi, hlo, hstatus, -⟩ := peek_entryPushed b s
  rw [entryPushed_platform, ← interruptEntry_platform_of_plain b hplain hplain'] at hhi hlo hstatus
  have hsp := interruptEntry_sp_eq_sub_three vec b s
  have hsp1 : (interruptEntry vec b s).sp + 1#8 = s.sp - 2#8 := by rw [hsp]; bv_omega
  have hsp2 : (interruptEntry vec b s).sp + 2#8 = s.sp - 1#8 := by rw [hsp]; bv_omega
  have hsp3 : (interruptEntry vec b s).sp + 3#8 = s.sp := by rw [hsp, BitVec.sub_add_cancel]
  obtain ⟨t, hexec, hframe, hflags, -, -⟩ := returnFromInterrupt (interruptEntry vec b s)
  rw [hsp1] at hflags
  rw [hsp2, hsp3, interruptEntry_clocks] at hframe
  have hpc : t.pc = s.pc := by
    rw [hframe]
    exact (congrArg₂ cat hhi hlo).trans (cat_hi8_lo8 s.pc)
  obtain ⟨hsp', ha, hx, hy, hclocks, hiface⟩ :
      t.sp = s.sp ∧ t.a = s.a ∧ t.x = s.x ∧ t.y = s.y ∧ t.clocks = s.clocks + 13 ∧ t.iface = s.iface := by
    rw [hframe]
    dsimp only
    exact ⟨rfl, interruptEntry_a vec b s, interruptEntry_x vec b s, interruptEntry_y vec b s, rfl,
      interruptEntry_iface_of_plain b hplain hplain'⟩
  exact ⟨t, hexec, hpc, hsp', ha, hx, hy, hflags.sameFlags_of_isPackedStatus hstatus, hclocks, hiface⟩

end Sys2Proof.Machine
end

section
/-! PROOFS. `Reset()` and the state after it (10_state.md R44, 70_reset_and_hazards.md R350): O48 and O49. -/
namespace Sys2Proof.Machine

/-- `Reset()` of the reset state is that state: its vector reads two bytes that nothing has written. -/
theorem resetCore_reset : resetCore State.reset = State.reset := by
  decide +kernel

/-- Settles O48: the reset state is one that `Reset()` leaves, and its platform is canonical. -/
theorem invariantAtReset : Obligations.InvariantAtReset :=
  ⟨resetCore_reset ▸ resetCore_inv (by decide), rfl⟩

/-- The lazy fields of the reset status byte: Z, N and C are clear in it (R27, R44). -/
theorem resolveFromP_resetP (s : State) :
    (s.setP Config.resetP).resolveFromP = { s with p := 0x24#8, zr := 1#8, nr := 0#8, cr := false } := by
  have hbits : Config.resetP.getLsbD bitZ = false ∧ Config.resetP.getLsbD bitN = false ∧
    Config.resetP.getLsbD bitC = false := by decide
  obtain ⟨hz, hn, hc⟩ := hbits
  rw [State.resolveFromP, State.setP_p, hz, hn, hc]
  rfl

/-- The state from which `Reset()` reads its vector (R350): the values of the table, the pending NMI and the latch
cleared. -/
def resetBeforeVector (s : State) : State :=
  { s with
    a := 0x00#8, x := 0x00#8, y := 0x00#8, sp := 0xFD#8, p := 0x24#8, zr := 1#8, nr := 0#8, cr := false
    clocks := 0, nextStop := 0, iface := { s.iface with nmiPending := false }, halted := false }

/-- `Reset()` is that state, then a two-byte read of its vector into PC. -/
theorem resetCore_eq (s : State) :
    resetCore s = (memRead2 Config.vecReset (resetBeforeVector s)).2.setPc
      (memRead2 Config.vecReset (resetBeforeVector s)).1 := by
  simp only [resetCore, resolveFromP_resetP]
  rfl

/-- Settles O49: the fields are those of `resetBeforeVector`, which the vector reads leave but for the platform and the
interface record. -/
theorem resetLeaves : Obligations.ResetLeaves := by
  refine ⟨fun s => ?_, resetCore_reset⟩
  rw [resetCore_eq]
  refine ⟨rfl, rfl, rfl, rfl, rfl, rfl, rfl, rfl, rfl, rfl, rfl, rfl, ⟨resetBeforeVector s, rfl, rfl⟩, fun hplain => ?_⟩
  rw [memRead2_plain Config.vecReset (resetBeforeVector s) hplain hplain]
  exact ⟨rfl, rfl, rfl⟩

end Sys2Proof.Machine
end

section
/-! PROOFS. What changes the platform when no page has read effects (20_memory.md section 3): O59. -/
namespace Sys2Proof.Machine

/-- The mnemonics that write storage in every form. -/
def storageWriters : List Mnemonic := [.sta, .stx, .sty, .inc, .dec, .pha, .php, .jsr, .brk]

/-- From `s` to `t` the platform and the interface record have not changed. -/
structure SameBus (t s : State) : Prop where
  platform : t.platform = s.platform
  iface : t.iface = s.iface

/-- With no device page to read every page is side-effect-free (R67). -/
theorem Platform.sideEffectFree_of_readIo_nil {pl : Platform} (h : pl.readIo = []) (p : Byte) :
    pl.sideEffectFree p = true := by
  simp [Platform.sideEffectFree, h]

section
variable {s : State} (h : s.platform.readIo = [])
include h

theorem readOperand_of_readIo_nil (o : ReadOperand) : (readOperand o s).2 = s := by
  cases o with
  | imm v => rfl
  | mem m => exact congrArg Prod.snd (readMem_plain m s (Platform.sideEffectFree_of_readIo_nil h _))

theorem indirectTarget_of_readIo_nil (w : Addr) : (indirectTarget w s).2 = s := by
  have hread (a : Addr) : (memRead a s).2 = s :=
    congrArg Prod.snd (memRead_plain a s (Platform.sideEffectFree_of_readIo_nil h _))
  rw [indirectTarget, hread, hread]

end

theorem ReadOf.sameBus {m : Mnemonic} {op : Byte → State → State} (hop : ReadOf m op) (b : Byte) (s : State) :
    SameBus (op b s) s := by
  cases hop <;> exact ⟨rfl, rfl⟩

/-- Of the class implied operations only the pushes write storage. -/
theorem ImpliedOf.sameBus {m : Mnemonic} {op : State → State} (hop : ImpliedOf m op) (hm : m ∉ storageWriters)
    (s : State) : SameBus (op s) s := by
  cases hop
  case pha | php => exact absurd (by decide) hm
  all_goals exact ⟨rfl, rfl⟩

/-- An instruction that is a store has a store's mnemonic. -/
theorem mem_storageWriters_of_storedRegister {m : Mnemonic} {s : State} {v : Byte} (h : storedRegister m s = some v) :
    m ∈ storageWriters := by
  unfold storedRegister at h
  split_ifs at h with hsta hstx hsty
  · rw [hsta]; decide
  · rw [hstx]; decide
  · rw [hsty]; decide

/-- The class rmw mnemonics are INC, DEC and those of the shifts. -/
theorem RmwOf.mnemonic_cases {m : Mnemonic} {op : Byte → State → Byte × State} (hop : RmwOf m op) :
    m ∈ storageWriters ∨ m ∈ shiftMnemonics := by
  cases hop <;> decide

/-- With no device page to read, an instruction off the list, and no shift on memory, changes nothing behind the bus. -/
theorem Does.sameBus {i : Instr} {s t : State} (hdoes : Does i s t) (h : s.platform.readIo = [])
    (hm : i.row.mnemonic ∉ storageWriters) (hshift : i.row.mnemonic ∈ shiftMnemonics → i.row.mode = .imp) :
    SameBus t s := by
  cases hdoes with
  | read r m o op hr hcls hrm hop =>
    rw [runRead, readOperand_of_readIo_nil h]
    obtain ⟨hplatform, hiface⟩ := hop.sameBus (readOperand o s).1 s
    exact ⟨hplatform, hiface⟩
  | store r o v hr hcls ho hv => subst hr; exact absurd (mem_storageWriters_of_storedRegister hv) hm
  | rmw r m o op hr hcls hmode ho hrm hop =>
    subst hr hrm
    exact absurd (hshift (hop.mnemonic_cases.resolve_left hm)) hmode
  | acc r m op hr hcls hmode hrm hmn hop => cases hop <;> exact ⟨rfl, rfl⟩
  | implied r m op hr hcls hrm hop =>
    subst hr hrm
    obtain ⟨hplatform, hiface⟩ := hop.sameBus hm s
    exact ⟨hplatform, hiface⟩
  | branch r m cond off => exact ⟨runBranch_platform r cond off s, runBranch_iface r cond off s⟩
  | selfJump => exact ⟨rfl, rfl⟩
  | jump w => exact ⟨rfl, rfl⟩
  | jumpIndirect w => rw [indirectTarget_of_readIo_nil h]; exact ⟨rfl, rfl⟩
  | call w hi => subst hi; exact absurd (show Mnemonic.jsr ∈ storageWriters by decide) hm
  | ret => exact ⟨rfl, rfl⟩
  | brk hi => subst hi; exact absurd (by decide) hm
  | rti => exact ⟨interruptReturn_platform s, interruptReturn_iface s⟩

/-- Settles O59, template by template: reads change nothing, and the templates that write storage are on the list. -/
theorem onlyStoresAndPushesChangeStorage : Obligations.OnlyStoresAndPushesChangeStorage := by
  intro i s t hexec h hm hshift
  obtain ⟨hplatform, hiface⟩ := (does_of_exec hexec).sameBus h hm hshift
  exact ⟨hplatform, hiface⟩

end Sys2Proof.Machine
end
